-- ==== Sys2Proof/Word.lean ====
section
/-! DEFINITION. The widths of the block's values (00_scope.md R14: every value is an unsigned
integer of a stated width). -/

namespace Sys2Proof

/-- u8: brightness, WP, FILL, a channel number, a register index. -/
abbrev U8 := BitVec 8

/-- u16: samples, averages, duties, the PWM counter, response data. -/
abbrev U16 := BitVec 16

/-- u24: the hidden running sum (10_state.md R29). -/
abbrev U24 := BitVec 24

/-- A command word {OP[31:24], A[23:16], D[15:0]} (30_encoding.md R70). -/
abbrev CommandWord := BitVec 32

end Sys2Proof
end

