-- ==== Sys2Proof/Syntax.lean ====
section
/-! DEFINITION. The commands: one constructor per row of spec/opcode_table.json
(30_encoding.md R73), with operands as wide as their fields (R72). -/

namespace Sys2Proof

/-- A decoded command. Operands out of a command's legal range are still commands: they are caught
at execution (30_encoding.md R72). -/
inductive Instr where
  /-- 43_pwm_driver.md R160 -/
  | configure
  /-- 43_pwm_driver.md R162: A = channel, D = duty -/
  | setDuty (channel : U8) (duty : U16)
  /-- 40_sample_window.md R100: D = raw sample -/
  | push (raw : U16)
  /-- 40_sample_window.md R104 -/
  | average
  /-- 41_range_mapper.md R120: D = smoothed value -/
  | map (smoothed : U16)
  /-- 42_gamma_table.md R140: D = table index, legal up to 255 -/
  | lookup (index : U16)
  /-- 44_pipeline.md R180: D = raw sample -/
  | cycle (raw : U16)
  /-- 45_register_access.md R200: A = register index -/
  | read (index : U8)
deriving DecidableEq, Repr

end Sys2Proof
end

