-- ==== Sys2Proof/Decode.lean ====
section
/-! DEFINITION. The command encoding of 30_encoding.md: fields (R71), the match and mask table (R74),
the decoder (R75) and, after it, the encoder (R70, R73). -/

namespace Sys2Proof

/-- cmd.OP = word[31:24] (30_encoding.md R71). -/
def fieldOP (w : CommandWord) : U8 := w.extractLsb' 24 8

/-- cmd.A = word[23:16] (30_encoding.md R71). -/
def fieldA (w : CommandWord) : U8 := w.extractLsb' 16 8

/-- cmd.D = word[15:0] (30_encoding.md R71). -/
def fieldD (w : CommandWord) : U16 := w.extractLsb' 0 16

/-- {OP, A, D} (30_encoding.md R70). -/
def makeWord (op : U8) (a : U8) (d : U16) : CommandWord := op ++ a ++ d

/-- One row of the match and mask table of 30_encoding.md R74. -/
structure Row where
  pattern : CommandWord
  mask : CommandWord
  /-- The command, from fields A and D of a matching word. -/
  command : U8 → U16 → Instr

/-- 30_encoding.md R74: "A word is the command if (word AND mask) = match." -/
def Row.admits (r : Row) (w : CommandWord) : Bool := w &&& r.mask == r.pattern

def rowConfigure : Row := ⟨0x01000000, 0xFFFFFFFF, fun _ _ => .configure⟩
def rowSetDuty : Row := ⟨0x02000000, 0xFF000000, fun a d => .setDuty a d⟩
def rowPush : Row := ⟨0x03000000, 0xFFFF0000, fun _ d => .push d⟩
def rowAverage : Row := ⟨0x04000000, 0xFFFFFFFF, fun _ _ => .average⟩
def rowMap : Row := ⟨0x05000000, 0xFFFF0000, fun _ d => .map d⟩
def rowLookup : Row := ⟨0x06000000, 0xFFFF0000, fun _ d => .lookup d⟩
def rowCycle : Row := ⟨0x07000000, 0xFFFF0000, fun _ d => .cycle d⟩
def rowRead : Row := ⟨0x08000000, 0xFF00FFFF, fun a _ => .read a⟩

/-- The table of 30_encoding.md R74, in its order. -/
def rows : List Row :=
  [rowConfigure, rowSetDuty, rowPush, rowAverage, rowMap, rowLookup, rowCycle, rowRead]

/-- Why a word decodes to ILLEGAL. Both raise ILLEGAL_COMMAND; no register tells them apart
(60_exceptions.md R220). -/
inductive Illegal where
  /-- 30_encoding.md R76: opcode 0x00 or 0x09 to 0xFF, the all-zero word among them. -/
  | reservedOpcode
  /-- 30_encoding.md R77: a "must be 0" field that is not 0. -/
  | reservedField
deriving DecidableEq, Repr

/-- The reason a word that no row admits is illegal. -/
def illegalReason (w : CommandWord) : Illegal :=
  if 1 ≤ (fieldOP w).toNat ∧ (fieldOP w).toNat ≤ 8 then .reservedField else .reservedOpcode

/-- The decoder of 30_encoding.md R75, total on every 32-bit word. It depends on the word alone
(R78). -/
def decode (w : CommandWord) : Except Illegal Instr :=
  match rows.find? (fun r => r.admits w) with
  | some r => .ok (r.command (fieldA w) (fieldD w))
  | none => .error (illegalReason w)

/-- The word of a command: its opcode of 30_encoding.md R73, its operands in their fields and 0 in
every "must be 0" field. -/
def encode : Instr → CommandWord
  | .configure => makeWord 0x01 0 0
  | .setDuty channel duty => makeWord 0x02 channel duty
  | .push raw => makeWord 0x03 0 raw
  | .average => makeWord 0x04 0 0
  | .map smoothed => makeWord 0x05 0 smoothed
  | .lookup index => makeWord 0x06 0 index
  | .cycle raw => makeWord 0x07 0 raw
  | .read index => makeWord 0x08 index 0

/-- The decoder on an instruction whose low `nbits` bits are those of `w`. Every command is exactly
32 bits long (30_encoding.md R78), one word on the port, so no byte order enters (20_memory.md R53,
assumption log 13). -/
def decodeTableWord (nbits w : Nat) : Option Instr :=
  if nbits ≤ 32 then (decode (BitVec.ofNat 32 (w % 2 ^ nbits))).toOption else none

end Sys2Proof
end

