-- ==== Sys2Proof/Config.lean ====
section
/-! DEFINITION. What an implementation of the block fixes: the build-time parameters of 00_scope.md
R7 with the legality of R8, and the gamma table of R9, whose values the spec leaves open. -/

namespace Sys2Proof

/-- The numeric parameters of 00_scope.md R7, and CMD_LATENCY of 70_reset_and_hazards.md R272, before
any check. Widths make the remaining upper bounds of R7 hold by themselves. -/
structure RawParams where
  /-- N, the window's capacity in samples. -/
  n : Nat
  /-- MIN_DIST, the low end of the clamp range. -/
  minDist : U16
  /-- MAX_DIST, the high end of the clamp range. -/
  maxDist : U16
  /-- TOP, the PWM counter's top count. -/
  top : U16
  /-- NUM_CH, the number of duty channels. -/
  numCh : Nat
  /-- OUT_CH, the channel the pipeline drives. -/
  outCh : Nat
  /-- CMD_LATENCY, the clock edges from acceptance to response. -/
  cmdLatency : Nat
deriving DecidableEq, Repr

/-- 00_scope.md R8, with CMD_LATENCY at least 1 (70_reset_and_hazards.md R272). R8's clause about
GAMMA is `Config.LegalGamma`, which `Config.gamma` satisfies by construction. -/
def RawParams.legal (p : RawParams) : Bool :=
  decide (1 ≤ p.n) && decide (p.n ≤ 255) && decide (p.minDist < p.maxDist) &&
  decide (1 ≤ p.top) && decide (1 ≤ p.numCh) && decide (p.numCh ≤ 4) &&
  decide (p.outCh < p.numCh) && decide (1 ≤ p.cmdLatency)

/-- A legal configuration: an illegal one cannot be built (60_exceptions.md R223, "eliminated by
construction"; assumption log 2). -/
structure Params extends RawParams where
  isLegal : toRawParams.legal = true
deriving DecidableEq, Repr

/-- The reference values of 00_scope.md R7. CMD_LATENCY = 1 is a DESIGN CHOICE (assumption log 3). -/
def RawParams.reference : RawParams :=
  { n := 10, minDist := 100, maxDist := 240, top := 0xFFFF, numCh := 2, outCh := 0, cmdLatency := 1 }

/-- The reference configuration, with its legality. -/
def Params.reference : Params :=
  { toRawParams := RawParams.reference, isLegal := by decide }

/-- The three conditions of 00_scope.md R9 on a gamma table. The first, 0 ≤ GAMMA[i] ≤ 65535, is the
width of the entries. -/
def Config.LegalGamma (table : U8 → U16) : Prop :=
  (∀ i : U8, i.toNat < 255 → (table i).toNat ≤ (table (i + 1)).toNat) ∧
  table 0 = 0 ∧ table 255 = 65535

/-- The largest of the first `k + 1` entries of `raw`. -/
def Config.runningMax (raw : U8 → U16) : Nat → U16
  | 0 => raw 0
  | k + 1 => if (Config.runningMax raw k).toNat ≤ (raw (BitVec.ofNat 8 (k + 1))).toNat
      then raw (BitVec.ofNat 8 (k + 1)) else Config.runningMax raw k

/-- The legal gamma table that `raw` determines: ends fixed by 00_scope.md R9, running maximum in
between. A legal `raw` determines itself (`Laws.legalTable_of_legal`), so every legal table
arises and nothing but R9 is known of the result. -/
def Config.legalTable (raw : U8 → U16) (i : U8) : U16 :=
  if i = 0 then 0 else if i = 255 then 65535 else Config.runningMax raw i.toNat

/-- FREE VALUE (assumption log 1): 256 values nothing is known of. 91_not_in_source.md N1: the
gamma table's values are not in the source. -/
opaque Config.gammaEntry : U8 → U16

/-- GAMMA, the parameter of 00_scope.md R9 and 20_memory.md R51: an arbitrary legal table, so a
theorem about it holds of every legal table. -/
def Config.gamma (i : U8) : U16 := Config.legalTable Config.gammaEntry i

/-- BLOCK_ID (10_state.md R34). -/
def Config.blockId : U16 := 0xCB01

end Sys2Proof
end

