-- ==== Sys2Proof/Machine/State.lean ====
section
/-! DEFINITION. The state of the block (10_state.md R23), the input pins of a clock edge (R39), and
the ways a step can stop. -/

namespace Sys2Proof.Machine

/-- The ways the model's step can stop. No fault of the spec is one of them: a spec fault is a next
state with FLT = 1 (60_exceptions.md R224). -/
inductive Fault where
  /-- WP names no slot of the window. Raised by PUSH and CYCLE. The spec gives slots 0 to N-1 only
  and keeps WP < N (10_state.md R26, R27), so no run from reset raises it. Safe (assumption
  log 7). -/
  | windowSlotMissing
deriving DecidableEq, Repr

/-- The ways the model can decline a step. -/
inductive Refusal where
  /-- An instruction that has no meaning in the model. Raised by no arm of `exec`. Safe. -/
  | notModelled (mnemonic : String)
  /-- A configuration that 00_scope.md R8 does not allow. Raised by `launch`, before any step.
  Safe. -/
  | illegalConfiguration
deriving DecidableEq, Repr

/-- What the block's input pins hold at one rising edge of clk (10_state.md R39). -/
structure Edge where
  /-- rst: synchronous reset. -/
  rst : Bool
  /-- cmd_valid: the host offers a command. -/
  cmdValid : Bool
  /-- cmd_data: the command word. -/
  cmdData : CommandWord
  /-- rsp_ready: the host accepts the response. -/
  rspReady : Bool
  /-- pwm_tick: this edge is a tick. -/
  pwmTick : Bool
  /-- No pin: which of a tick and a command at this same edge comes first. 20_memory.md R59: the RTL
  has the command first (false), and a model admits both orders (assumption log 5). -/
  tickFirst : Bool
deriving DecidableEq, Repr

/-- An edge at which nobody asks anything of the block. -/
def Edge.idle : Edge :=
  { rst := false, cmdValid := false, cmdData := 0, rspReady := false, pwmTick := false,
    tickFirst := false }

/-- The state of the command port's handshake (10_state.md R39). -/
inductive Phase where
  /-- No command in flight and no response pending: cmd_ready = 1. -/
  | ready
  /-- A command was accepted and has not committed; `wait` more edges pass before the edge at which
  it commits. -/
  | executing (word : CommandWord) (wait : Nat)
  /-- A response is pending: rsp_valid = 1. -/
  | responding
deriving DecidableEq, Repr

/-- The architectural state of 10_state.md R23, with the handshake of R39, the configuration
constants of 00_scope.md R7 (which no step writes, assumption log 2) and the pins of the coming
edges (assumption log 4). -/
structure State where
  /-- The configuration parameters. -/
  params : Params
  /-- CFG (R24). -/
  cfg : Bool
  /-- FLT (R25). -/
  flt : Bool
  /-- CAUSE (R25, R36). -/
  cause : BitVec 4
  /-- Win[0..N-1] (R26). -/
  win : List U16
  /-- WP (R27). -/
  wp : U8
  /-- FILL (R28). -/
  fill : U8
  /-- SUM (R29). -/
  sum : U24
  /-- CNT (R30). -/
  cnt : U16
  /-- DUTY_PEND[0..NUM_CH-1] (R32). -/
  dutyPend : List U16
  /-- DUTY_ACT[0..NUM_CH-1] (R32). -/
  dutyAct : List U16
  /-- DIAG_AVG (R31). -/
  diagAvg : U16
  /-- DIAG_CLAMPED (R31). -/
  diagClamped : U16
  /-- DIAG_BRIGHT (R31). -/
  diagBright : U8
  /-- DIAG_DUTY (R31). -/
  diagDuty : U16
  /-- RSP_OK (R37). -/
  rspOk : Bool
  /-- RSP_DATA (R37). -/
  rspData : U16
  /-- The command port's handshake (R39). -/
  phase : Phase
  /-- The index, in the host's sequence, of the next command (R22, assumption log 8). -/
  cmdIndex : Nat
  /-- The model's own: the pins at the coming rising edges, the next one first. -/
  inputs : List Edge
deriving DecidableEq, Repr

/-- Every element of 10_state.md R23 at its reset value, in a block of configuration `p`
(70_reset_and_hazards.md R260). DESIGN CHOICE, the spec gives no value: RSP_OK and RSP_DATA are 0
(assumption log 6), and the host's first command has index 0 (assumption log 18). -/
def State.resetFor (p : Params) : State :=
  { params := p
    cfg := false
    flt := false
    cause := 0
    win := List.replicate p.n 0
    wp := 0
    fill := 0
    sum := 0
    cnt := 0
    dutyPend := List.replicate p.numCh 0
    dutyAct := List.replicate p.numCh 0
    diagAvg := 0
    diagClamped := 0
    diagBright := 0
    diagDuty := 0
    rspOk := false
    rspData := 0
    phase := .ready
    cmdIndex := 0
    inputs := [] }

/-- The launch state (70_reset_and_hazards.md R262) of the block of the reference configuration
(00_scope.md R7). -/
def State.reset : State := State.resetFor Params.reference

end Sys2Proof.Machine
end

