-- ==== Sys2Proof/Machine/Flags.lean ====
section
/-! DEFINITION. The flags of STATUS and the fault causes (10_state.md R28, R35, R36;
60_exceptions.md R220). -/

namespace Sys2Proof.Machine

/-- WARM = (FILL = N) (10_state.md R28). -/
def warm (s : State) : Bool := decide (s.fill.toNat = s.params.n)

/-- The register STATUS: bit 0 CFG, bit 1 FLT, bit 2 WARM, bits 15:3 read as 0 (10_state.md R35). -/
def statusWord (s : State) : U16 :=
  (0 : BitVec 13) ++ BitVec.ofBool (warm s) ++ BitVec.ofBool s.flt ++ BitVec.ofBool s.cfg

/-- The causes a command can raise (60_exceptions.md R220, codes 1 to 5). -/
inductive Cause where
  | illegalCommand
  | notConfigured
  | badChannel
  | gammaIndex
  | reconfigure
deriving DecidableEq, Repr

/-- The cause codes of 60_exceptions.md R220. -/
def causeCode : Cause → BitVec 4
  | .illegalCommand => 1
  | .notConfigured => 2
  | .badChannel => 3
  | .gammaIndex => 4
  | .reconfigure => 5

/-- The register FAULT_CAUSE, zext_16(CAUSE) (10_state.md R36). -/
def causeWord (s : State) : U16 := s.cause.setWidth 16

end Sys2Proof.Machine
end

