-- ==== Sys2Proof/RegisterMap.lean ====
section
/-! DEFINITION. The registers READ can name (10_state.md R34), as names: the numbers are given in
Machine/Operands.lean. -/

namespace Sys2Proof

/-- A register of the index map of 10_state.md R34. Channels run to 3, because NUM_CH is at most 4
(00_scope.md R7); a block has those below its NUM_CH. -/
inductive Reg where
  | status
  | faultCause
  | fill
  | diagAvg
  | diagClamped
  | diagBright
  | diagDuty
  | pwmCnt
  | dutyPend (ch : Fin 4)
  | dutyAct (ch : Fin 4)
  | cfgTop
  | cfgN
  | cfgMin
  | cfgMax
  | cfgCh
  | blockId
deriving DecidableEq, Repr

end Sys2Proof
end

