-- ==== Sys2Proof/Machine/Operands.lean ====
section
/-! DEFINITION. What the operands of a command name: a channel, a gamma table entry, a register of
the index map (10_state.md R34). -/

namespace Sys2Proof.Machine

/-- A channel of the block: A < NUM_CH (43_pwm_driver.md R162). -/
def channelExists (p : Params) (channel : U8) : Bool := decide (channel.toNat < p.numCh)

/-- An index of the gamma table: D ≤ 255 (42_gamma_table.md R140). -/
def gammaIndexLegal (index : U16) : Bool := decide (index.toNat ≤ 255)

/-- cmd.D[7:0] (42_gamma_table.md R140). -/
def gammaIndexOf (index : U16) : U8 := index.extractLsb' 0 8

/-- DUTY_PEND[ch]. -/
def dutyPendAt (s : State) (ch : Nat) : U16 := s.dutyPend.getD ch 0

/-- DUTY_ACT[ch]. -/
def dutyActAt (s : State) (ch : Nat) : U16 := s.dutyAct.getD ch 0

/-- The index column of 10_state.md R34, for the largest block. -/
def regAtIndex (index : U8) : Option Reg :=
  match index.toNat with
  | 0x00 => some .status
  | 0x01 => some .faultCause
  | 0x02 => some .fill
  | 0x03 => some .diagAvg
  | 0x04 => some .diagClamped
  | 0x05 => some .diagBright
  | 0x06 => some .diagDuty
  | 0x07 => some .pwmCnt
  | 0x08 => some (.dutyPend 0)
  | 0x09 => some (.dutyPend 1)
  | 0x0A => some (.dutyPend 2)
  | 0x0B => some (.dutyPend 3)
  | 0x0C => some (.dutyAct 0)
  | 0x0D => some (.dutyAct 1)
  | 0x0E => some (.dutyAct 2)
  | 0x0F => some (.dutyAct 3)
  | 0x10 => some .cfgTop
  | 0x11 => some .cfgN
  | 0x12 => some .cfgMin
  | 0x13 => some .cfgMax
  | 0x14 => some .cfgCh
  | 0x15 => some .blockId
  | _ => none

/-- The block has the register: those of channels ≥ NUM_CH it has not (10_state.md R34). -/
def regExists (p : Params) : Reg → Bool
  | .dutyPend ch => decide (ch.val < p.numCh)
  | .dutyAct ch => decide (ch.val < p.numCh)
  | .status | .faultCause | .fill | .diagAvg | .diagClamped | .diagBright | .diagDuty | .pwmCnt
  | .cfgTop | .cfgN | .cfgMin | .cfgMax | .cfgCh | .blockId => true

/-- The register an index names; none is an unassigned index (45_register_access.md R201). -/
def regOfIndex (p : Params) (index : U8) : Option Reg :=
  (regAtIndex index).filter (regExists p)

/-- CFG_CH: OUT_CH in bits 1:0, NUM_CH in bits 6:4, 0 elsewhere (10_state.md R34). -/
def channelWord (p : Params) : U16 :=
  (0 : BitVec 9) ++ BitVec.ofNat 3 p.numCh ++ (0 : BitVec 2) ++ BitVec.ofNat 2 p.outCh

/-- The value column of 10_state.md R34: "Unused bits of every register read as 0." -/
def regValue (s : State) : Reg → U16
  | .status => statusWord s
  | .faultCause => causeWord s
  | .fill => s.fill.setWidth 16
  | .diagAvg => s.diagAvg
  | .diagClamped => s.diagClamped
  | .diagBright => s.diagBright.setWidth 16
  | .diagDuty => s.diagDuty
  | .pwmCnt => s.cnt
  | .dutyPend ch => dutyPendAt s ch.val
  | .dutyAct ch => dutyActAt s ch.val
  | .cfgTop => s.params.top
  | .cfgN => BitVec.ofNat 16 s.params.n
  | .cfgMin => s.params.minDist
  | .cfgMax => s.params.maxDist
  | .cfgCh => channelWord s.params
  | .blockId => Config.blockId

end Sys2Proof.Machine
end

