-- ==== Sys2Proof/Machine/Ops.lean ====
section
/-! DEFINITION. The operations commands share: the response, taking a fault (60_exceptions.md R224)
and the one way back from it, reset (70_reset_and_hazards.md R260); the window, the map and the
table (families 40 to 42); the tick (43_pwm_driver.md R166). -/

namespace Sys2Proof.Machine

/-- The outcome of a command's meaning. -/
abbrev Result := Host.Outcome State Fault Refusal

/-- respond(ok, data): the one response of a command, pending from now on (10_state.md R37, R39). -/
def respond (ok : Bool) (data : U16) (s : State) : State :=
  { s with rspOk := ok, rspData := data, phase := .responding }

/-- raise Fault(c): sticky, precise, the first cause kept (60_exceptions.md R224). -/
def raiseFault (c : Cause) (s : State) : State :=
  if s.flt then respond false (causeWord s) s
  else respond false ((causeCode c).setWidth 16) { s with flt := true, cause := causeCode c }

/-- The only return from a fault (60_exceptions.md R229): every element of 10_state.md R23 takes its
reset value. The configuration is constant (70_reset_and_hazards.md R263); the host's sequence and
the pins to come are not the block's to change (assumption log 16). -/
def resetBlock (s : State) : State :=
  { State.resetFor s.params with cmdIndex := s.cmdIndex, inputs := s.inputs }

/-- The command step's first test (60_exceptions.md R225): while FLT = 1 a command other than READ is
ignored, with response (0, CAUSE). -/
def unlessFaulted (s : State) (run : Result) : Result :=
  if s.flt then .next (respond false (causeWord s) s) else run

/-- SUM - Win[WP] + raw, in the 24 bits of SUM (40_sample_window.md R101; assumption log 11). -/
def sumAfterPush (raw : U16) (s : State) : U24 :=
  s.sum - (s.win.getD s.wp.toNat 0).setWidth 24 + raw.setWidth 24

/-- The slot Win[WP] exists. -/
def slotExists (s : State) : Bool := decide (s.wp.toNat < s.win.length)

/-- Runs a command that writes Win[WP], stopping where there is no such slot (assumption log 7). -/
def withSlot (s : State) (run : Result) : Result :=
  if slotExists s then run else .fault .windowSlotMissing

/-- push_op(raw) (40_sample_window.md R101). -/
def pushOp (raw : U16) (s : State) : State :=
  { s with
    win := s.win.set s.wp.toNat raw
    sum := sumAfterPush raw s
    wp := BitVec.ofNat 8 ((s.wp.toNat + 1) % s.params.n)
    fill := BitVec.ofNat 8 (min (s.fill.toNat + 1) s.params.n) }

/-- sum / N, truncating (40_sample_window.md R105). -/
def meanOf (p : Params) (sum : U24) : U16 := BitVec.ofNat 16 (sum.toNat / p.n)

/-- avg_op() (40_sample_window.md R105). -/
def avgOp (s : State) : U16 := meanOf s.params s.sum

/-- clamp_op(s) = min(max(s, MIN_DIST), MAX_DIST) (41_range_mapper.md R121). -/
def clampOp (p : Params) (smoothed : U16) : U16 :=
  BitVec.ofNat 16 (min (max smoothed.toNat p.minDist.toNat) p.maxDist.toNat)

/-- map_op(s) = 255 - ((clamp_op(s) - MIN_DIST) * 255) / (MAX_DIST - MIN_DIST), on integers, with
the truncated quotient of 90_conflicts.md C1 and C2 (41_range_mapper.md R121). -/
def mapOp (p : Params) (smoothed : U16) : U8 :=
  BitVec.ofNat 8 (255 - (((clampOp p smoothed).toNat - p.minDist.toNat) * 255) /
    (p.maxDist.toNat - p.minDist.toNat))

/-- lookup_op(i) = GAMMA[i] (42_gamma_table.md R141). -/
def lookupOp (i : U8) : U16 := Config.gamma i

/-- DUTY_PEND[ch] <- duty (43_pwm_driver.md R162). -/
def setDutyPend (ch : Nat) (duty : U16) (s : State) : State :=
  { s with dutyPend := s.dutyPend.set ch duty }

/-- The four latches of 44_pipeline.md R183. -/
def latchDiag (avg clamped : U16) (bright : U8) (duty : U16) (s : State) : State :=
  { s with diagAvg := avg, diagClamped := clamped, diagBright := bright, diagDuty := duty }

/-- One step of the tick agent (43_pwm_driver.md R166). -/
def tick (s : State) : State :=
  if s.cfg then
    if s.cnt = s.params.top then { s with cnt := 0, dutyAct := s.dutyPend }
    else { s with cnt := s.cnt + 1 }
  else s

/-- Elaboration of a block: an illegal configuration is refused before any step (00_scope.md R8,
60_exceptions.md R223). -/
def launch (p : RawParams) : Result :=
  if h : p.legal = true then .next (State.resetFor { toRawParams := p, isLegal := h })
  else .refused .illegalConfiguration

end Sys2Proof.Machine
end

