-- ==== Sys2Proof/Machine/GammaTable.lean ====
section
/-! DEFINITION. LOOKUP (42_gamma_table.md). -/

namespace Sys2Proof.Machine

/-- LOOKUP (42_gamma_table.md R140): GAMMA[D], or the fault GAMMA_INDEX when D > 255. -/
def execLookup (index : U16) (s : State) : Result :=
  unlessFaulted s <| .next <|
    if gammaIndexLegal index then respond true (lookupOp (gammaIndexOf index)) s
    else raiseFault .gammaIndex s

end Sys2Proof.Machine
end

