-- ==== Sys2Proof/Machine/Pipeline.lean ====
section
/-! DEFINITION. CYCLE (44_pipeline.md). -/

namespace Sys2Proof.Machine

/-- The average CYCLE takes: of the window with the new sample in (44_pipeline.md R180, R181). -/
def cycleAvg (raw : U16) (s : State) : U16 := meanOf s.params (sumAfterPush raw s)

/-- The duty CYCLE sets and answers (44_pipeline.md R180). -/
def cycleDuty (raw : U16) (s : State) : U16 := lookupOp (mapOp s.params (cycleAvg raw s))

/-- The effect of a CYCLE that does not fault (44_pipeline.md R180). -/
def cycleOp (raw : U16) (s : State) : State :=
  latchDiag (cycleAvg raw s) (clampOp s.params (cycleAvg raw s)) (mapOp s.params (cycleAvg raw s))
    (cycleDuty raw s) (setDutyPend s.params.outCh (cycleDuty raw s) (pushOp raw s))

/-- CYCLE (44_pipeline.md R180): the whole pipeline in one command, or the fault NOT_CONFIGURED with
no push. -/
def execCycle (raw : U16) (s : State) : Result :=
  unlessFaulted s <|
    if s.cfg then withSlot s (.next (respond true (cycleDuty raw s) (cycleOp raw s)))
    else .next (raiseFault .notConfigured s)

end Sys2Proof.Machine
end

