-- ==== Sys2Proof/Machine/PwmDriver.lean ====
section
/-! DEFINITION. CONFIGURE and SET_DUTY (43_pwm_driver.md). The tick step R166 is `tick` in
Machine/Ops.lean. -/

namespace Sys2Proof.Machine

/-- CONFIGURE (43_pwm_driver.md R160): CFG <- 1, CNT <- 0, or the fault RECONFIGURE when CFG = 1. -/
def execConfigure (s : State) : Result :=
  unlessFaulted s <| .next <|
    if s.cfg then raiseFault .reconfigure s
    else respond true 0 { s with cfg := true, cnt := 0 }

/-- SET_DUTY (43_pwm_driver.md R162), with the faults in the order of 60_exceptions.md R226. -/
def execSetDuty (channel : U8) (duty : U16) (s : State) : Result :=
  unlessFaulted s <| .next <|
    if s.cfg then
      if channelExists s.params channel then respond true 0 (setDutyPend channel.toNat duty s)
      else raiseFault .badChannel s
    else raiseFault .notConfigured s

end Sys2Proof.Machine
end

