-- ==== Sys2Proof/Machine/RangeMapper.lean ====
section
/-! DEFINITION. MAP (41_range_mapper.md). -/

namespace Sys2Proof.Machine

/-- MAP (41_range_mapper.md R120): respond(1, zext_16(map_op(cmd.D))). -/
def execMap (smoothed : U16) (s : State) : Result :=
  unlessFaulted s (.next (respond true ((mapOp s.params smoothed).setWidth 16) s))

end Sys2Proof.Machine
end

