-- ==== Sys2Proof/Machine/RegisterAccess.lean ====
section
/-! DEFINITION. READ (45_register_access.md). -/

namespace Sys2Proof.Machine

/-- READ (45_register_access.md R200). It runs whether or not FLT = 1 (60_exceptions.md R225); an
unassigned index raises ILLEGAL_COMMAND, which keeps the first cause of a faulted block. -/
def execRead (index : U8) (s : State) : Result :=
  match regOfIndex s.params index with
  | some reg => .next (respond true (regValue s reg) s)
  | none => .next (raiseFault .illegalCommand s)

end Sys2Proof.Machine
end

