-- ==== Sys2Proof/Machine/SampleWindow.lean ====
section
/-! DEFINITION. PUSH and AVERAGE (40_sample_window.md). -/

namespace Sys2Proof.Machine

/-- PUSH (40_sample_window.md R100): push_op(cmd.D); respond(1, 0). -/
def execPush (raw : U16) (s : State) : Result :=
  unlessFaulted s (withSlot s (.next (respond true 0 (pushOp raw s))))

/-- AVERAGE (40_sample_window.md R104): respond(1, avg_op()). -/
def execAverage (s : State) : Result :=
  unlessFaulted s (.next (respond true (avgOp s) s))

end Sys2Proof.Machine
end

