-- ==== Sys2Proof/Machine/Dispatch.lean ====
section
/-! DEFINITION. One arm per command: its meaning, the test of FLT (60_exceptions.md R225) included. -/

namespace Sys2Proof.Machine

def exec (i : Instr) (s : State) : Host.Outcome State Fault Refusal :=
  match i with
  | .configure => Sys2Proof.Machine.execConfigure s
  | .setDuty channel duty => Sys2Proof.Machine.execSetDuty channel duty s
  | .push raw => Sys2Proof.Machine.execPush raw s
  | .average => Sys2Proof.Machine.execAverage s
  | .map smoothed => Sys2Proof.Machine.execMap smoothed s
  | .lookup index => Sys2Proof.Machine.execLookup index s
  | .cycle raw => Sys2Proof.Machine.execCycle raw s
  | .read index => Sys2Proof.Machine.execRead index s

end Sys2Proof.Machine
end

