-- ==== Sys2Proof/Machine/Ports.lean ====
section
/-! DEFINITION. The output pins as functions of the state (10_state.md R38, R39). -/

namespace Sys2Proof.Machine

/-- cmd_ready: 0 from acceptance until the response is taken (10_state.md R39). -/
def cmdReady (s : State) : Bool := decide (s.phase = .ready)

/-- rsp_valid: a response is pending (10_state.md R39). -/
def rspValid (s : State) : Bool := decide (s.phase = .responding)

/-- pwm_out[ch] = 1 iff CFG = 1 and ch = OUT_CH and CNT < DUTY_ACT[ch] (10_state.md R38). -/
def pwmOut (s : State) (ch : Nat) : Bool :=
  s.cfg && decide (ch = s.params.outCh) && decide (s.cnt.toNat < (dutyActAt s ch).toNat)

/-- fault_out = FLT (10_state.md R38). -/
def faultOut (s : State) : Bool := s.flt

end Sys2Proof.Machine
end

