-- ==== Sys2Proof/Machine/Clock.lean ====
section
/-! DEFINITION. One rising edge of clk: the command step (60_exceptions.md R225), the handshake
(10_state.md R39), the order of a same-edge command and tick (20_memory.md R59) and the precedence
of reset (60_exceptions.md R228). -/

namespace Sys2Proof.Machine

/-- step_command(w) (60_exceptions.md R225). An illegal word raises ILLEGAL_COMMAND, and is ignored
while FLT = 1, which `raiseFault` answers in the same way. -/
def commandStep (w : CommandWord) (s : State) : Result :=
  match decode w with
  | .ok i => exec i s
  | .error _ => .next (raiseFault .illegalCommand s)

/-- A command is accepted where cmd_valid = 1 and cmd_ready = 1; it commits CMD_LATENCY edges later
(10_state.md R39, 70_reset_and_hazards.md R272, assumption log 9). -/
def acceptCommand (w : CommandWord) (s : State) : State :=
  { s with phase := .executing w (s.params.cmdLatency - 1), cmdIndex := s.cmdIndex + 1 }

/-- What the command agent does at an edge, by the handshake of 10_state.md R39. -/
def commandEdge (e : Edge) (s : State) : Result :=
  match s.phase with
  | .ready => .next (if e.cmdValid then acceptCommand e.cmdData s else s)
  | .executing w 0 => commandStep w s
  | .executing w (k + 1) => .next { s with phase := .executing w k }
  | .responding => .next (if e.rspReady then { s with phase := .ready } else s)

/-- What the tick agent does at an edge. -/
def tickEdge (e : Edge) (s : State) : State := if e.pwmTick then tick s else s

/-- `f` of the next state, where there is one. -/
def afterNext (r : Result) (f : State → State) : Result :=
  match r with
  | .next s => .next (f s)
  | .fault x => .fault x
  | .refused x => .refused x

/-- One rising edge of clk. Reset takes precedence over everything (60_exceptions.md R228); a command
and a tick at one edge come in the order the edge says (20_memory.md R59, assumption log 5). -/
def clockEdge (e : Edge) (s : State) : Result :=
  if e.rst then .next (resetBlock s)
  else if e.tickFirst then commandEdge e (tickEdge e s)
  else afterNext (commandEdge e s) (tickEdge e)

/-- The pins at the coming edge: past the listed ones, nobody asks anything (assumption log 4). -/
def nextEdge (s : State) : Edge := s.inputs.headD Edge.idle

/-- The state with the coming edge's pins consumed. -/
def dropEdge (s : State) : State := { s with inputs := s.inputs.tail }

/-- The command word `w` accepted and due to commit at the coming edge, at which the other pins ask
nothing (assumption log 10). -/
def placeCommand (s : State) (w : CommandWord) : State :=
  { s with phase := .executing w 0, inputs := Edge.idle :: s.inputs }

end Sys2Proof.Machine
end

