-- ==== Sys2Proof/Machine/Step.lean ====
section
/-! DEFINITION. The step: one rising edge of clk, at the pins the state lists for it. -/

namespace Sys2Proof.Machine

/-- One rising edge of clk (10_state.md R39: "every state change is at a rising edge"). -/
def step (s : State) : Host.Outcome State Fault Refusal :=
  clockEdge (nextEdge s) (dropEdge s)

/-- `s` with the command whose low `nbits` bits are those of `w` accepted and committing at the very
next step (assumption log 10). -/
def State.withFetchWord (s : State) (nbits w : Nat) : State :=
  placeCommand s (BitVec.ofNat 32 (w % 2 ^ nbits))

end Sys2Proof.Machine
end

