-- ==== Sys2Proof/SourceLine.lean ====
section
/-! DEFINITION. The lines of the spec's assembly language, commands and pseudo-instructions
(30_encoding.md R79 and R80), with operands as the numbers the line holds, before any check. -/

namespace Sys2Proof

/-- READ's operand: "reg is a number or a register name" (30_encoding.md R79). -/
inductive RegOperand where
  | number (index : Nat)
  | name (reg : Reg)
deriving DecidableEq, Repr

/-- One line of assembly (30_encoding.md R79; the last four are the pseudo-instructions of R80). -/
inductive Asm where
  | configure
  | setDuty (channel value : Nat)
  | push (raw : Nat)
  | average
  | map (smoothed : Nat)
  | lookup (index : Nat)
  | cycle (raw : Nat)
  | read (reg : RegOperand)
  | setOut (value : Nat)
  | warmup (raw : Nat)
  | rdStatus
  | rdCause
deriving DecidableEq, Repr

end Sys2Proof
end

