-- ==== Sys2Proof/WellFormed.lean ====
section
/-! DEFINITION. What is checked of a command besides its bits: that an assembly line's operands fit
their fields (30_encoding.md R79), and which operands are in a command's legal range (R72). A value
of `Instr` needs no check of its own: its operands are exactly as wide as their fields. -/

namespace Sys2Proof

/-- The number fits field A (8 bits). -/
def fitsA (v : Nat) : Bool := decide (v ≤ 255)

/-- The number fits field D (16 bits). -/
def fitsD (v : Nat) : Bool := decide (v ≤ 65535)

/-- 30_encoding.md R79: "A value that does not fit its field (ch or reg above 255, any D operand
above 65535) is an assembly error and produces no word." -/
def Asm.wellFormed : Asm → Bool
  | .configure => true
  | .setDuty channel value => fitsA channel && fitsD value
  | .push raw => fitsD raw
  | .average => true
  | .map smoothed => fitsD smoothed
  | .lookup index => fitsD index
  | .cycle raw => fitsD raw
  | .read (.number index) => fitsA index
  | .read (.name _) => true
  | .setOut value => fitsD value
  | .warmup raw => fitsD raw
  | .rdStatus => true
  | .rdCause => true

/-- The assigned register indices of 45_register_access.md R201, from NUM_CH alone. -/
def assignedIndex (p : Params) (index : U8) : Bool :=
  decide (index.toNat ≤ 0x07) ||
  (decide (0x08 ≤ index.toNat) && decide (index.toNat < 0x08 + p.numCh)) ||
  (decide (0x0C ≤ index.toNat) && decide (index.toNat < 0x0C + p.numCh)) ||
  (decide (0x10 ≤ index.toNat) && decide (index.toNat ≤ 0x15))

/-- The operands are in the command's legal range (30_encoding.md R72): the commands outside it
decode, and fault when they are executed. -/
def Instr.wellFormed (p : Params) : Instr → Bool
  | .configure => true
  | .setDuty channel _ => decide (channel.toNat < p.numCh)
  | .push _ => true
  | .average => true
  | .map _ => true
  | .lookup index => decide (index.toNat ≤ 255)
  | .cycle _ => true
  | .read index => assignedIndex p index

end Sys2Proof
end

