-- ==== Sys2Proof/Machine/Assembler.lean ====
section
/-! DEFINITION. The spec's assembler (30_encoding.md R79) and the expansions of its
pseudo-instructions (R80): from a line's text to the command words it stands for. -/

namespace Sys2Proof.Machine

/-- The index a register name stands for (30_encoding.md R79, 10_state.md R34). -/
def regIndex : Reg → Nat
  | .status => 0x00
  | .faultCause => 0x01
  | .fill => 0x02
  | .diagAvg => 0x03
  | .diagClamped => 0x04
  | .diagBright => 0x05
  | .diagDuty => 0x06
  | .pwmCnt => 0x07
  | .dutyPend ch => 0x08 + ch.val
  | .dutyAct ch => 0x0C + ch.val
  | .cfgTop => 0x10
  | .cfgN => 0x11
  | .cfgMin => 0x12
  | .cfgMax => 0x13
  | .cfgCh => 0x14
  | .blockId => 0x15

/-- READ's operand as a number (30_encoding.md R79). -/
def operandIndex : RegOperand → Nat
  | .number index => index
  | .name reg => regIndex reg

/-- The commands a line stands for: itself, or its expansion (30_encoding.md R80). The operands are
taken to fit (`assemble` checks it). -/
def expand (p : Params) : Asm → List Instr
  | .configure => [.configure]
  | .setDuty channel value => [.setDuty (BitVec.ofNat 8 channel) (BitVec.ofNat 16 value)]
  | .push raw => [.push (BitVec.ofNat 16 raw)]
  | .average => [.average]
  | .map smoothed => [.map (BitVec.ofNat 16 smoothed)]
  | .lookup index => [.lookup (BitVec.ofNat 16 index)]
  | .cycle raw => [.cycle (BitVec.ofNat 16 raw)]
  | .read reg => [.read (BitVec.ofNat 8 (operandIndex reg))]
  | .setOut value => [.setDuty (BitVec.ofNat 8 p.outCh) (BitVec.ofNat 16 value)]
  | .warmup raw => List.replicate p.n (.push (BitVec.ofNat 16 raw))
  | .rdStatus => [.read 0x00]
  | .rdCause => [.read 0x01]

/-- The words of a line; none is an assembly error, which "produces no word" (30_encoding.md R79). -/
def assemble (p : Params) (a : Asm) : Option (List CommandWord) :=
  if a.wellFormed then some ((expand p a).map encode) else none

/-- Space, tab or carriage return. -/
def isBlank (c : Char) : Bool := c == ' ' || c == '\t' || c == '\r'

/-- The words and commas of a line, up to a `;`, which starts a comment (30_encoding.md R79). `word`
holds the letters, last first, of the word being read. -/
def tokens : List Char → List Char → List (List Char)
  | [], word => if word.isEmpty then [] else [word.reverse]
  | c :: rest, word =>
    let before := if word.isEmpty then [] else [word.reverse]
    if c == ';' then before
    else if isBlank c then before ++ tokens rest []
    else if c == ',' then before ++ [','] :: tokens rest []
    else tokens rest (c :: word)

/-- The value of a digit in a base up to 16; letters of either case (assumption log 14). -/
def digitValue (base : Nat) (c : Char) : Option Nat :=
  let v :=
    if '0'.toNat ≤ c.toNat ∧ c.toNat ≤ '9'.toNat then c.toNat - '0'.toNat
    else if 'A'.toNat ≤ c.toNat ∧ c.toNat ≤ 'F'.toNat then c.toNat - 'A'.toNat + 10
    else if 'a'.toNat ≤ c.toNat ∧ c.toNat ≤ 'f'.toNat then c.toNat - 'a'.toNat + 10
    else 16
  if v < base then some v else none

/-- The number that digits spell, after those that `value` stands for. -/
def digitsValue (base value : Nat) : List Char → Option Nat
  | [] => some value
  | c :: rest =>
    match digitValue base c with
    | some d => digitsValue base (value * base + d) rest
    | none => none

/-- "Numbers are decimal, or hexadecimal with a 0x prefix" (30_encoding.md R79). -/
def numberOf (word : List Char) : Option Nat :=
  match word with
  | [] => none
  | '0' :: 'x' :: c :: rest => digitsValue 16 0 (c :: rest)
  | c :: rest => digitsValue 10 0 (c :: rest)

/-- The register names of 10_state.md R34, spelled as in 30_encoding.md R79. DESIGN CHOICE, assumption
log 19: the names of channels the block has not are names too; READ of such an index faults. -/
def regNames : List (String × Reg) :=
  [("STATUS", .status), ("FAULT_CAUSE", .faultCause), ("FILL", .fill), ("DIAG_AVG", .diagAvg),
   ("DIAG_CLAMPED", .diagClamped), ("DIAG_BRIGHT", .diagBright), ("DIAG_DUTY", .diagDuty),
   ("PWM_CNT", .pwmCnt), ("DUTY_PEND0", .dutyPend 0), ("DUTY_PEND1", .dutyPend 1),
   ("DUTY_PEND2", .dutyPend 2), ("DUTY_PEND3", .dutyPend 3), ("DUTY_ACT0", .dutyAct 0),
   ("DUTY_ACT1", .dutyAct 1), ("DUTY_ACT2", .dutyAct 2), ("DUTY_ACT3", .dutyAct 3),
   ("CFG_TOP", .cfgTop), ("CFG_N", .cfgN), ("CFG_MIN", .cfgMin), ("CFG_MAX", .cfgMax),
   ("CFG_CH", .cfgCh), ("BLOCK_ID", .blockId)]

/-- READ's operand: a register name or a number (30_encoding.md R79). -/
def regOperandOf (word : List Char) : Option RegOperand :=
  match regNames.find? (fun entry => entry.1.toList == word) with
  | some entry => some (.name entry.2)
  | none => (numberOf word).map .number

/-- Commands without an operand. -/
def plainForms : List (String × Asm) :=
  [("CONFIGURE", .configure), ("AVERAGE", .average), ("RDSTATUS", .rdStatus), ("RDCAUSE", .rdCause)]

/-- Commands with one number. -/
def numberForms : List (String × (Nat → Asm)) :=
  [("PUSH", .push), ("MAP", .map), ("LOOKUP", .lookup), ("CYCLE", .cycle), ("SET_OUT", .setOut),
   ("WARMUP", .warmup)]

/-- What a line of text is. -/
inductive Line where
  /-- Nothing but white space and a comment. -/
  | blank
  | command (a : Asm)
  /-- No line of the language. -/
  | error
deriving DecidableEq, Repr

/-- The line that words and commas make, if they make one. -/
def commandOf : List (List Char) → Option Asm
  | [name] => (plainForms.find? (fun f => f.1.toList == name)).map (fun f => f.2)
  | [name, operand] =>
    if name == "READ".toList then (regOperandOf operand).map .read
    else
      match numberForms.find? (fun f => f.1.toList == name), numberOf operand with
      | some f, some v => some (f.2 v)
      | _, _ => none
  | [name, channel, comma, value] =>
    if name == "SET_DUTY".toList && comma == [','] then
      match numberOf channel, numberOf value with
      | some c, some v => some (.setDuty c v)
      | _, _ => none
    else none
  | _ => none

/-- Reads one line of text (30_encoding.md R79, "one command per line"). -/
def parseLine (text : String) : Line :=
  match tokens text.toList [] with
  | [] => .blank
  | words =>
    match commandOf words with
    | some a => .command a
    | none => .error

/-- The words a line of text assembles to: none of them for a blank line, an assembly error for a
line that is no line or whose operand does not fit (30_encoding.md R79). -/
def assembleLine (p : Params) (text : String) : Option (List CommandWord) :=
  match parseLine text with
  | .blank => some []
  | .command a => assemble p a
  | .error => none

end Sys2Proof.Machine
end

