-- ==== Sys2Proof/Machine/Transactions.lean ====
section
/-! DEFINITION. The block's three agents without the clock (10_state.md R20): what one step of each
does, and runs in which commands, ticks and resets follow one another in any order (20_memory.md
R58, R59; 92_eei_decisions.md D36). `step` does these same things at clock edges. -/

namespace Sys2Proof.Machine

/-- One step of one agent (10_state.md R20). -/
inductive Action where
  | command (word : CommandWord)
  | tick
  | reset
deriving DecidableEq, Repr

/-- What the agent's step does. -/
def act (a : Action) (s : State) : Result :=
  match a with
  | .command word => commandStep word s
  | .tick => .next (tick s)
  | .reset => .next (resetBlock s)

/-- The actions in order, stopping at the first that stops. -/
def runActions : List Action → State → Result
  | [], s => .next s
  | a :: rest, s =>
    match act a s with
    | .next t => runActions rest t
    | .fault x => .fault x
    | .refused x => .refused x

/-- Decoded commands in order, with nothing between them. -/
def runCommands : List Instr → State → Result
  | [], s => .next s
  | i :: rest, s =>
    match exec i s with
    | .next t => runCommands rest t
    | .fault x => .fault x
    | .refused x => .refused x

/-- What the three agents do at an edge with these pins, in order, when the command port is in this
phase (60_exceptions.md R228, 20_memory.md R59). -/
def actionsAt (e : Edge) (phase : Phase) : List Action :=
  let commands :=
    match phase with
    | .executing word 0 => [Action.command word]
    | .executing _ (_ + 1) => []
    | .ready => []
    | .responding => []
  let tickings := if e.pwmTick then [Action.tick] else []
  if e.rst then [.reset]
  else if e.tickFirst then tickings ++ commands
  else commands ++ tickings

/-- `k` ticks with nothing between them. -/
def ticks : Nat → State → State
  | 0, s => s
  | k + 1, s => ticks k (tick s)

/-- The block's own registers: the state without the handshake, the host's index and the pins. -/
def registersOf (s : State) : State := { s with phase := .ready, cmdIndex := 0, inputs := [] }

/-- The response register (10_state.md R37). -/
def responseOf (s : State) : Bool × U16 := (s.rspOk, s.rspData)

end Sys2Proof.Machine
end

