-- ==== Sys2Proof/Safety.lean ====
section
/-! DEFINITION. The terms claims use: the invariant of the block's states, the samples a sequence of
commands inserts, and safe runs. -/

namespace Sys2Proof

open Sys2Proof.Machine

/-- The sum of the slots as an integer. -/
def slotSum (slots : List U16) : Nat := (slots.map BitVec.toNat).sum

/-- The edges a command in flight still waits for before it commits. -/
def waitOf : Phase → Nat
  | .executing _ wait => wait
  | .ready => 0
  | .responding => 0

/-- What holds of every state the block can be in (10_state.md R23 to R36). -/
structure BlockInv (s : State) : Prop where
  /-- R26: the window has exactly N slots. -/
  winLength : s.win.length = s.params.n
  /-- R27: WP < N. -/
  wpInRange : s.wp.toNat < s.params.n
  /-- R28: FILL saturates at N. -/
  fillBound : s.fill.toNat ≤ s.params.n
  /-- R29: SUM is the sum of the slots. -/
  sumOfSlots : s.sum.toNat = slotSum s.win
  /-- R26, R28: before WARM, the slots from WP on still hold the zero pre-fill. -/
  coldSlots : s.fill.toNat < s.params.n → s.wp.toNat = s.fill.toNat ∧
    s.win.drop s.fill.toNat = List.replicate (s.params.n - s.fill.toNat) 0
  /-- R30: CNT ≤ TOP. -/
  cntBound : s.cnt.toNat ≤ s.params.top.toNat
  /-- R32: one DUTY_PEND per channel. -/
  pendLength : s.dutyPend.length = s.params.numCh
  /-- R32: one DUTY_ACT per channel. -/
  actLength : s.dutyAct.length = s.params.numCh
  /-- R30 and 43_pwm_driver.md R160: nothing of the driver has moved before CONFIGURE. -/
  unconfigured : s.cfg = false → s.cnt = 0 ∧
    s.dutyPend = List.replicate s.params.numCh 0 ∧ s.dutyAct = List.replicate s.params.numCh 0
  /-- R36: CAUSE is 0 exactly when FLT = 0. -/
  causeOfFlt : s.flt = false ↔ s.cause = 0
  /-- R36: codes 6 to 15 are never written. -/
  causeAssigned : s.cause.toNat ≤ 5
  /-- R39: a command in flight commits within CMD_LATENCY edges. -/
  waitBound : waitOf s.phase < s.params.cmdLatency

/-- The DIAG registers are all 0, as before the first CYCLE that succeeds, or hold an average with
its clamp, its map and the table's entry there, in the order of 44_pipeline.md R183. -/
def DiagConsistent (s : State) : Prop :=
  (s.diagAvg = 0 ∧ s.diagClamped = 0 ∧ s.diagBright = 0 ∧ s.diagDuty = 0) ∨
  (s.diagClamped = clampOp s.params s.diagAvg ∧ s.diagBright = mapOp s.params s.diagAvg ∧
    s.diagDuty = Config.gamma s.diagBright)

/-- The samples that commands insert into the window, in order (40_sample_window.md R102: "through
PUSH or CYCLE in any mix"). -/
def samplesOf : List Instr → List U16
  | [] => []
  | .push raw :: rest => raw :: samplesOf rest
  | .cycle raw :: rest => raw :: samplesOf rest
  | _ :: rest => samplesOf rest

/-- The samples that the commands among the actions insert, in order. -/
def samplesIn : List Action → List U16
  | [] => []
  | .command word :: rest =>
    (match decode word with
     | .ok i => samplesOf [i]
     | .error _ => []) ++ samplesIn rest
  | .tick :: rest => samplesIn rest
  | .reset :: rest => samplesIn rest

/-- The last `k` of a list. -/
def lastOf (k : Nat) (xs : List U16) : List U16 := xs.drop (xs.length - k)

/-- How many of the actions are ticks. -/
def tickCount (actions : List Action) : Nat := actions.countP (fun a => a == .tick)

/-- At how many of the coming `k` ticks, the present state's included, the pin of `ch` is high. -/
def highTicks (ch : Nat) : Nat → State → Nat
  | 0, _ => 0
  | k + 1, s => (if pwmOut s ch then 1 else 0) + highTicks ch k (tick s)

/-- The command executes, answers (1, `data`) and changes nothing else (10_state.md R37). -/
def Answers (i : Instr) (s : State) (data : U16) : Prop :=
  exec i s = .next { s with rspOk := true, rspData := data, phase := .responding }

/-- `t` is `s` with the fault of this code taken and nothing else changed (60_exceptions.md R224). -/
def TakesFault (code : BitVec 4) (s t : State) : Prop :=
  t = { s with
    flt := true, cause := code, rspOk := false, rspData := code.setWidth 16, phase := .responding }

/-- The command takes the fault of this code. -/
def Traps (i : Instr) (s : State) (code : BitVec 4) : Prop :=
  ∃ t, exec i s = .next t ∧ TakesFault code s t

/-- `t` is `s` with the answer (0, CAUSE) and nothing else changed (60_exceptions.md R225). -/
def IgnoresWith (s t : State) : Prop :=
  t = { s with rspOk := false, rspData := s.cause.setWidth 16, phase := .responding }

/-- What the agents do over the coming `k` edges. -/
def actionsOver : Nat → State → List Action
  | 0, _ => []
  | k + 1, s =>
    actionsAt (nextEdge s) s.phase ++
      (match step s with
       | .next t => actionsOver k t
       | .fault _ => []
       | .refused _ => [])

/-- A run of `k` clock edges that no stop ends. -/
def SafeRun (k : Nat) (s : State) : Prop := ∃ t, Sys2Proof.core.run k s = .next t

end Sys2Proof
end

