-- ==== Sys2Proof/Certificates/Slice0/Obligations.lean ====
section
/-! DEFINITION. The statements about the block, for the provers. -/

open Sys2Proof Sys2Proof.Machine

/-! ### Encoding -/

/-- 30_encoding.md R73 to R77: a word decodes to a command exactly when it is that command's word. -/
def Obligations.DecodeAgreesWithEncode : Prop :=
  ∀ (w : CommandWord) (i : Instr), decode w = .ok i ↔ w = encode i

/-- 30_encoding.md R74: the match and mask table, row by row, how a row matches, and that no two rows
match one word. -/
def Obligations.MatchMaskTableIsUnambiguous : Prop :=
  (∀ (a : U8) (d : U16), rows.map (fun r => (r.pattern, r.mask, r.command a d)) =
    [(0x01000000, 0xFFFFFFFF, .configure), (0x02000000, 0xFF000000, .setDuty a d),
     (0x03000000, 0xFFFF0000, .push d), (0x04000000, 0xFFFFFFFF, .average),
     (0x05000000, 0xFFFF0000, .map d), (0x06000000, 0xFFFF0000, .lookup d),
     (0x07000000, 0xFFFF0000, .cycle d), (0x08000000, 0xFF00FFFF, .read a)]) ∧
  (∀ w i, decode w = .ok i ↔
    ∃ r ∈ rows, w &&& r.mask = r.pattern ∧ i = r.command (fieldA w) (fieldD w)) ∧
  rows.Pairwise (fun r q => ∀ w : CommandWord, w &&& r.mask = r.pattern → w &&& q.mask ≠ q.pattern)

/-- 30_encoding.md R76 and R77: the reserved opcodes and the non-zero "must be 0" fields are illegal,
and no other word is. Fields are taken from the word's number (R70). -/
def Obligations.IllegalWordsExactly : Prop :=
  ∀ w : CommandWord,
    let op := w.toNat / 2 ^ 24
    let a := w.toNat / 2 ^ 16 % 2 ^ 8
    let d := w.toNat % 2 ^ 16
    let reservedOpcode := op = 0 ∨ 9 ≤ op
    let reservedField := ((op = 1 ∨ op = 4) ∧ (a ≠ 0 ∨ d ≠ 0)) ∨
      ((op = 3 ∨ op = 5 ∨ op = 6 ∨ op = 7) ∧ a ≠ 0) ∨ (op = 8 ∧ d ≠ 0)
    (reservedOpcode → ∃ reason, decode w = .error reason) ∧
    (reservedField → ∃ reason, decode w = .error reason) ∧
    (¬ reservedOpcode → ¬ reservedField → ∃ i, decode w = .ok i) ∧
    (∃ reason, decode 0 = .error reason)

/-- 30_encoding.md R70, R73: every command's word as the number OP × 2^24 + A × 2^16 + D. -/
def Obligations.CommandWordLayout : Prop :=
  (encode .configure).toNat = 0x01 * 2 ^ 24 ∧
  (∀ channel duty, (encode (.setDuty channel duty)).toNat =
    0x02 * 2 ^ 24 + channel.toNat * 2 ^ 16 + duty.toNat) ∧
  (∀ raw, (encode (.push raw)).toNat = 0x03 * 2 ^ 24 + raw.toNat) ∧
  (encode .average).toNat = 0x04 * 2 ^ 24 ∧
  (∀ smoothed, (encode (.map smoothed)).toNat = 0x05 * 2 ^ 24 + smoothed.toNat) ∧
  (∀ index, (encode (.lookup index)).toNat = 0x06 * 2 ^ 24 + index.toNat) ∧
  (∀ raw, (encode (.cycle raw)).toNat = 0x07 * 2 ^ 24 + raw.toNat) ∧
  (∀ index, (encode (.read index)).toNat = 0x08 * 2 ^ 24 + index.toNat * 2 ^ 16)

/-- 95_test_vectors.md L2.1, and L2.5 P-S1 for the SET_DUTY word: words written out from
30_encoding.md decode to their commands. -/
def Obligations.VectorWordsDecode : Prop :=
  decode 0x01000000 = .ok .configure ∧ decode 0x02008000 = .ok (.setDuty 0 0x8000) ∧
  decode 0x03000064 = .ok (.push 100) ∧ decode 0x04000000 = .ok .average ∧
  decode 0x050000AA = .ok (.map 170) ∧ decode 0x06000100 = .ok (.lookup 256) ∧
  decode 0x070000AA = .ok (.cycle 170) ∧ decode 0x08150000 = .ok (.read 0x15)

/-- 30_encoding.md R80: the four expansions, and what WARMUP leaves. -/
def Obligations.PseudoInstructionsExpand : Prop :=
  ∀ (p : Params) (v : Nat), v ≤ 65535 →
    assemble p (.setOut v) = assemble p (.setDuty p.outCh v) ∧
    assemble p (.warmup v) = some (List.replicate p.n (encode (.push (BitVec.ofNat 16 v)))) ∧
    assemble p .rdStatus = assemble p (.read (.number 0x00)) ∧
    assemble p .rdCause = assemble p (.read (.number 0x01)) ∧
    ∀ s : State, BlockInv s → s.params = p → s.flt = false →
      ∃ t, runCommands (expand p (.warmup v)) s = .next t ∧ warm t = true ∧
        t.win = List.replicate p.n (BitVec.ofNat 16 v)

/-- 30_encoding.md R79: a line assembles exactly when its operands fit their fields, to one word
that decodes to its command; a register name stands for its index. That the names of channels the
block has not are names of the language is the model's choice (assumption log 19). -/
def Obligations.AssemblyProducesTheCommandsWord : Prop :=
  ∀ p : Params,
    assemble p .configure = some [encode .configure] ∧
    assemble p .average = some [encode .average] ∧
    (∀ channel value, assemble p (.setDuty channel value) =
      if channel ≤ 255 ∧ value ≤ 65535
      then some [encode (.setDuty (BitVec.ofNat 8 channel) (BitVec.ofNat 16 value))] else none) ∧
    (∀ raw, assemble p (.push raw) =
      if raw ≤ 65535 then some [encode (.push (BitVec.ofNat 16 raw))] else none) ∧
    (∀ smoothed, assemble p (.map smoothed) =
      if smoothed ≤ 65535 then some [encode (.map (BitVec.ofNat 16 smoothed))] else none) ∧
    (∀ index, assemble p (.lookup index) =
      if index ≤ 65535 then some [encode (.lookup (BitVec.ofNat 16 index))] else none) ∧
    (∀ raw, assemble p (.cycle raw) =
      if raw ≤ 65535 then some [encode (.cycle (BitVec.ofNat 16 raw))] else none) ∧
    (∀ index, assemble p (.read (.number index)) =
      if index ≤ 255 then some [encode (.read (BitVec.ofNat 8 index))] else none) ∧
    (∀ reg, assemble p (.read (.name reg)) = assemble p (.read (.number (regIndex reg))) ∧
      regAtIndex (BitVec.ofNat 8 (regIndex reg)) = some reg)

/-! ### What each command does -/

/-- 43_pwm_driver.md R160: CONFIGURE sets CFG and clears CNT, and faults with code 5 the second time;
the duties it leaves alone are still 0. -/
def Obligations.ConfigureConfiguresOnce : Prop :=
  ∀ s : State, s.flt = false →
    (s.cfg = false → exec .configure s = .next
      { s with cfg := true, cnt := 0, rspOk := true, rspData := 0, phase := .responding }) ∧
    (s.cfg = true → Traps .configure s 5) ∧
    (s.cfg = false → BlockInv s → s.dutyPend = List.replicate s.params.numCh 0 ∧
      s.dutyAct = List.replicate s.params.numCh 0)

/-- 43_pwm_driver.md R162: SET_DUTY writes DUTY_PEND[ch] and nothing else, or faults with code 2, or
with code 3, in that order. -/
def Obligations.SetDutyWritesPendingDuty : Prop :=
  ∀ (s : State) (channel : U8) (duty : U16), s.flt = false →
    (s.cfg = true → channel.toNat < s.params.numCh → exec (.setDuty channel duty) s = .next
      { s with dutyPend := s.dutyPend.set channel.toNat duty, rspOk := true, rspData := 0,
               phase := .responding }) ∧
    (s.cfg = false → Traps (.setDuty channel duty) s 2) ∧
    (s.cfg = true → s.params.numCh ≤ channel.toNat → Traps (.setDuty channel duty) s 3)

/-- 40_sample_window.md R101: what a push writes, as integers, and that PUSH writes nothing else;
CYCLE writes the same there. -/
def Obligations.PushReplacesTheOldestSlot : Prop :=
  ∀ (s : State) (raw : U16), BlockInv s → s.flt = false →
    ∃ t, exec (.push raw) s = .next t ∧
      t = { s with win := s.win.set s.wp.toNat raw, sum := t.sum, wp := t.wp, fill := t.fill,
                   rspOk := true, rspData := 0, phase := .responding } ∧
      (s.win.getD s.wp.toNat 0).toNat ≤ s.sum.toNat ∧
      t.sum.toNat = s.sum.toNat - (s.win.getD s.wp.toNat 0).toNat + raw.toNat ∧
      t.sum.toNat ≤ s.params.n * 65535 ∧
      t.wp.toNat = (s.wp.toNat + 1) % s.params.n ∧
      t.fill.toNat = min (s.fill.toNat + 1) s.params.n ∧
      (s.cfg = true → ∃ u, exec (.cycle raw) s = .next u ∧
        (u.win, u.wp, u.fill, u.sum) = (t.win, t.wp, t.fill, t.sum))

/-- 40_sample_window.md R105: AVERAGE answers the truncated mean of all N slots. -/
def Obligations.AverageIsTheTruncatedMean : Prop :=
  ∀ s : State, BlockInv s → s.flt = false →
    ∃ v, Answers .average s v ∧ v.toNat = s.sum.toNat / s.params.n ∧
      v.toNat = slotSum s.win / s.params.n

/-- 41_range_mapper.md R121 and R122: MAP answers the inverted, clamped, truncated map of its operand,
which lies in 0 to 255. -/
def Obligations.MapAnswersTheInvertedRange : Prop :=
  ∀ (s : State) (x : U16), s.flt = false →
    let c := min (max x.toNat s.params.minDist.toNat) s.params.maxDist.toNat
    let q := ((c - s.params.minDist.toNat) * 255) /
      (s.params.maxDist.toNat - s.params.minDist.toNat)
    ∃ v, Answers (.map x) s v ∧ v.toNat = 255 - q ∧ q ≤ 255 ∧
      (clampOp s.params x).toNat = c ∧ (mapOp s.params x).toNat = 255 - q

/-- 42_gamma_table.md R140, R141: LOOKUP answers the table's entry, or faults with code 4. -/
def Obligations.LookupAnswersTheEntry : Prop :=
  ∀ (s : State) (index : U16), s.flt = false →
    (index.toNat ≤ 255 →
      Answers (.lookup index) s (Config.gamma (BitVec.ofNat 8 index.toNat))) ∧
    (255 < index.toNat → Traps (.lookup index) s 4)

/-- 44_pipeline.md R180: the values CYCLE computes, as integers, where it puts them, and that it
changes nothing else; unconfigured, it faults with code 2 and pushes nothing. -/
def Obligations.CycleRunsTheWholePipeline : Prop :=
  ∀ (s : State) (raw : U16), BlockInv s → s.flt = false →
    (s.cfg = true → ∃ t, exec (.cycle raw) s = .next t ∧
      t.sum.toNat = s.sum.toNat - (s.win.getD s.wp.toNat 0).toNat + raw.toNat ∧
      t.wp.toNat = (s.wp.toNat + 1) % s.params.n ∧
      t.fill.toNat = min (s.fill.toNat + 1) s.params.n ∧
      t.diagAvg.toNat = t.sum.toNat / s.params.n ∧
      t.diagClamped.toNat =
        min (max t.diagAvg.toNat s.params.minDist.toNat) s.params.maxDist.toNat ∧
      t.diagBright.toNat = 255 - ((t.diagClamped.toNat - s.params.minDist.toNat) * 255) /
        (s.params.maxDist.toNat - s.params.minDist.toNat) ∧
      t.diagDuty = Config.gamma t.diagBright ∧
      t = { s with win := s.win.set s.wp.toNat raw, sum := t.sum, wp := t.wp, fill := t.fill,
                   dutyPend := s.dutyPend.set s.params.outCh t.diagDuty,
                   diagAvg := t.diagAvg, diagClamped := t.diagClamped,
                   diagBright := t.diagBright, diagDuty := t.diagDuty,
                   rspOk := true, rspData := t.diagDuty, phase := .responding }) ∧
    (s.cfg = false → Traps (.cycle raw) s 2)

/-- 10_state.md R34, R35, R36: READ answers the register of the index map, faulted or not, and changes
nothing. -/
def Obligations.ReadAnswersTheIndexMap : Prop :=
  ∀ s : State,
    (∃ v, Answers (.read 0x00) s v ∧ v.toNat = s.cfg.toNat + 2 * s.flt.toNat +
      4 * (if s.fill.toNat = s.params.n then 1 else 0)) ∧
    Answers (.read 0x01) s (s.cause.setWidth 16) ∧
    Answers (.read 0x02) s (s.fill.setWidth 16) ∧
    Answers (.read 0x03) s s.diagAvg ∧
    Answers (.read 0x04) s s.diagClamped ∧
    Answers (.read 0x05) s (s.diagBright.setWidth 16) ∧
    Answers (.read 0x06) s s.diagDuty ∧
    Answers (.read 0x07) s s.cnt ∧
    (∀ ch v, ch < s.params.numCh → s.dutyPend[ch]? = some v →
      Answers (.read (BitVec.ofNat 8 (0x08 + ch))) s v) ∧
    (∀ ch v, ch < s.params.numCh → s.dutyAct[ch]? = some v →
      Answers (.read (BitVec.ofNat 8 (0x0C + ch))) s v) ∧
    Answers (.read 0x10) s s.params.top ∧
    (∃ v, Answers (.read 0x11) s v ∧ v.toNat = s.params.n) ∧
    Answers (.read 0x12) s s.params.minDist ∧
    Answers (.read 0x13) s s.params.maxDist ∧
    (∃ v, Answers (.read 0x14) s v ∧ v.toNat = s.params.outCh + 16 * s.params.numCh) ∧
    Answers (.read 0x15) s 0xCB01

/-- 45_register_access.md R201: the assigned indices, from NUM_CH alone. Every other index takes
ILLEGAL_COMMAND, or keeps the first cause of a faulted block. -/
def Obligations.AssignedIndicesExactly : Prop :=
  ∀ (s : State) (index : U8),
    let r := index.toNat
    let assigned := r ≤ 0x07 ∨ (0x08 ≤ r ∧ r < 0x08 + s.params.numCh) ∨
      (0x0C ≤ r ∧ r < 0x0C + s.params.numCh) ∨ (0x10 ≤ r ∧ r ≤ 0x15)
    (assigned → ∃ v, Answers (.read index) s v) ∧
    (¬ assigned → s.flt = false → Traps (.read index) s 1) ∧
    (¬ assigned → s.flt = true → ∃ t, exec (.read index) s = .next t ∧ IgnoresWith s t)

/-! ### Laws of the datapath -/

/-- 41_range_mapper.md R123: the widths of the map, and that unsigned arithmetic of any width from 24
bits on computes it exactly. -/
def Obligations.MapIsExactInTwentyFourBits : Prop :=
  ∀ (p : Params) (x : U16),
    let c := (clampOp p x).toNat
    (c - p.minDist.toNat) * 255 ≤ 65535 * 255 ∧ 65535 * 255 < 2 ^ 24 ∧
    1 ≤ p.maxDist.toNat - p.minDist.toNat ∧ p.maxDist.toNat - p.minDist.toNat ≤ 65535 ∧
    ∀ width : Nat, 24 ≤ width →
      let low := p.minDist.setWidth width
      let high := p.maxDist.setWidth width
      let all := BitVec.ofNat width 255
      (all - (((clampOp p x).setWidth width - low) * all) / (high - low)).toNat = (mapOp p x).toNat

/-- 41_range_mapper.md R124: the map never increases. -/
def Obligations.MapNeverIncreases : Prop :=
  ∀ (p : Params) (x y : U16), x.toNat ≤ y.toNat → (mapOp p y).toNat ≤ (mapOp p x).toNat

/-- 41_range_mapper.md R125 and R126: the map at and beyond the ends of the clamp range. -/
def Obligations.MapEndsAndSaturation : Prop :=
  ∀ p : Params, mapOp p p.minDist = 255 ∧ mapOp p p.maxDist = 0 ∧
    (∀ x : U16, x.toNat < p.minDist.toNat → mapOp p x = 255) ∧
    (∀ x : U16, p.maxDist.toNat < x.toNat → mapOp p x = 0)

/-- 42_gamma_table.md R143: the table's laws, as the answers of LOOKUP. -/
def Obligations.LookupIsMonotoneWithFixedEnds : Prop :=
  ∀ s : State, s.flt = false →
    Answers (.lookup 0) s 0 ∧ Answers (.lookup 255) s 65535 ∧
    ∀ i j : U16, i.toNat ≤ j.toNat → j.toNat ≤ 255 →
      ∃ v w, Answers (.lookup i) s v ∧ Answers (.lookup j) s w ∧ v.toNat ≤ w.toNat

/-- 40_sample_window.md R102: once N samples are in, the window holds exactly the last N of them and
SUM is their sum, whatever other commands and ticks came between. -/
def Obligations.WindowHoldsTheLastSamples : Prop :=
  ∀ (s t : State) (actions : List Action), BlockInv s → Action.reset ∉ actions →
    runActions actions s = .next t → t.flt = false →
    s.params.n ≤ (samplesIn actions).length →
    t.win.Perm (lastOf s.params.n (samplesIn actions)) ∧
    t.sum.toNat = slotSum (lastOf s.params.n (samplesIn actions))

/-- 40_sample_window.md R106: after N or more pushes of one value, AVERAGE answers it. -/
def Obligations.RepeatedSampleIsItsAverage : Prop :=
  ∀ (s : State) (v : U16) (k : Nat), BlockInv s → s.flt = false → s.params.n ≤ k →
    ∃ t, runCommands (List.replicate k (.push v)) s = .next t ∧ Answers .average t v

/-- 40_sample_window.md R107: the average does not depend on which slot holds which sample. -/
def Obligations.AverageIgnoresSlotOrder : Prop :=
  ∀ s t : State, BlockInv s → BlockInv t → s.flt = false → t.flt = false → s.params = t.params →
    s.win.Perm t.win → ∃ v, Answers .average s v ∧ Answers .average t v

/-- 10_state.md R28: FILL counts the samples since reset and saturates at N; WARM is 1 exactly when N
samples are in. Only a push makes WARM 1 and only reset makes it 0. -/
def Obligations.FillCountsSamplesUpToN : Prop :=
  (∀ (p : Params) (t : State) (actions : List Action), Action.reset ∉ actions →
    runActions actions (State.resetFor p) = .next t → t.flt = false →
      t.fill.toNat = min (samplesIn actions).length p.n ∧
      (warm t = true ↔ t.fill.toNat = p.n) ∧
      (warm t = true ↔ p.n ≤ (samplesIn actions).length)) ∧
  (∀ s t : State, BlockInv s → step s = .next t → warm s = false → warm t = true →
    ∃ w raw, (nextEdge s).rst = false ∧ s.phase = .executing w 0 ∧
      (decode w = .ok (.push raw) ∨ decode w = .ok (.cycle raw))) ∧
  (∀ s t : State, BlockInv s → step s = .next t → warm s = true → warm t = false →
    (nextEdge s).rst = true)

/-- 44_pipeline.md R182: CYCLE leaves the state of PUSH, AVERAGE, MAP, LOOKUP, SET_DUTY and the four
latches, in that order, but for the response; unconfigured, the sequence pushes and CYCLE does
not. -/
def Obligations.CycleEqualsItsSequence : Prop :=
  ∀ (s : State) (raw : U16), BlockInv s → s.flt = false →
    ∃ a b c d e, exec (.push raw) s = .next a ∧ exec .average a = .next b ∧
      exec (.map b.rspData) b = .next c ∧ exec (.lookup c.rspData) c = .next d ∧
      exec (.setDuty (BitVec.ofNat 8 s.params.outCh) d.rspData) d = .next e ∧
      (s.cfg = true → ∃ t, exec (.cycle raw) s = .next t ∧ e.flt = false ∧
        t.rspData = d.rspData ∧
        t = { e with diagAvg := b.rspData, diagClamped := clampOp s.params b.rspData,
                     diagBright := BitVec.ofNat 8 c.rspData.toNat, diagDuty := d.rspData,
                     rspOk := t.rspOk, rspData := t.rspData }) ∧
      (s.cfg = false → Traps (.cycle raw) s 2 ∧ e.flt = true ∧ e.cause = 2 ∧
        e.win = s.win.set s.wp.toNat raw)

/-- 44_pipeline.md R185: with the last N samples all `v`, CYCLE `v` gives the values of the steady
state, and the source's three scenarios with the reference parameters. -/
def Obligations.SteadyStateOfThePipeline : Prop :=
  ∀ (s t : State) (actions : List Action) (v : U16), BlockInv s → Action.reset ∉ actions →
    runActions actions s = .next t → t.flt = false → t.cfg = true →
    s.params.n ≤ (samplesIn actions).length →
    lastOf s.params.n (samplesIn actions) = List.replicate s.params.n v →
    ∃ u, exec (.cycle v) t = .next u ∧ u.diagAvg = v ∧
      u.diagClamped.toNat = min (max v.toNat s.params.minDist.toNat) s.params.maxDist.toNat ∧
      u.diagBright = mapOp s.params v ∧ u.diagDuty = Config.gamma (mapOp s.params v) ∧
      u.rspOk = true ∧ u.rspData = u.diagDuty ∧
      dutyPendAt u s.params.outCh = u.diagDuty ∧
      (s.params = Params.reference →
        (v = 100 → u.diagBright = 255 ∧ u.diagDuty = 65535) ∧
        (v = 240 → u.diagBright = 0 ∧ u.diagDuty = 0) ∧
        (v = 170 → u.diagBright = 128 ∧ u.diagDuty = Config.gamma 128))

/-- 44_pipeline.md R186: a window with a smaller average never gets a smaller duty. -/
def Obligations.NearerIsNeverDimmer : Prop :=
  ∀ (s t : State) (x y : U16), BlockInv s → BlockInv t → s.params = t.params → s.flt = false →
    t.flt = false → s.cfg = true → t.cfg = true →
    ∃ a b, exec (.cycle x) s = .next a ∧ exec (.cycle y) t = .next b ∧
      (a.diagAvg.toNat ≤ b.diagAvg.toNat → b.rspData.toNat ≤ a.rspData.toNat)

/-! ### Faults -/

/-- 60_exceptions.md R224: fault entry, first and later. -/
def Obligations.FaultEntryKeepsTheFirstCause : Prop :=
  ∀ (c : Cause) (s : State),
    (s.flt = false → TakesFault (causeCode c) s (raiseFault c s)) ∧
    faultOut (raiseFault c s) = true ∧
    (s.flt = true → IgnoresWith s (raiseFault c s))

/-- 60_exceptions.md R225: the command step. -/
def Obligations.CommandStepTestsFltFirst : Prop :=
  ∀ (w : CommandWord) (s : State),
    (s.flt = true →
      (∀ index, decode w = .ok (.read index) → commandStep w s = exec (.read index) s) ∧
      ((∀ index, decode w ≠ .ok (.read index)) →
        ∃ t, commandStep w s = .next t ∧ IgnoresWith s t)) ∧
    (s.flt = false →
      (∀ reason, decode w = .error reason → ∃ t, commandStep w s = .next t ∧ TakesFault 1 s t) ∧
      (∀ i, decode w = .ok i → commandStep w s = exec i s))

/-- 60_exceptions.md R220, R226: when an unfaulted block takes a fault, and which: exactly under these
conditions, of which no two hold together, and with no other effect. -/
def Obligations.EachCauseExactlyOnItsCondition : Prop :=
  ∀ (w : CommandWord) (s t : State), s.flt = false → commandStep w s = .next t →
    (t.flt = true → TakesFault t.cause s t) ∧
    (t.flt = true ∧ t.cause = 1 ↔ (∃ reason, decode w = .error reason) ∨
      (∃ index, decode w = .ok (.read index) ∧ assignedIndex s.params index = false)) ∧
    (t.flt = true ∧ t.cause = 2 ↔ s.cfg = false ∧
      ((∃ channel duty, decode w = .ok (.setDuty channel duty)) ∨
       (∃ raw, decode w = .ok (.cycle raw)))) ∧
    (t.flt = true ∧ t.cause = 3 ↔ s.cfg = true ∧
      ∃ channel duty, decode w = .ok (.setDuty channel duty) ∧ s.params.numCh ≤ channel.toNat) ∧
    (t.flt = true ∧ t.cause = 4 ↔
      ∃ index, decode w = .ok (.lookup index) ∧ 255 < index.toNat) ∧
    (t.flt = true ∧ t.cause = 5 ↔ s.cfg = true ∧ decode w = .ok .configure) ∧
    (t.flt = true → 1 ≤ t.cause.toNat ∧ t.cause.toNat ≤ 5) ∧
    (BlockInv s → t.flt = false → t.cause = 0)

/-- 60_exceptions.md R227: while FLT = 1 a command changes only the response, and the tick does what
it does without a fault, so the waveform goes on. -/
def Obligations.FaultHaltsCommandsNotTheCounter : Prop :=
  (∀ (w : CommandWord) (s t : State), s.flt = true → commandStep w s = .next t →
    t = { s with rspOk := t.rspOk, rspData := t.rspData, phase := .responding } ∧
    (t.rspOk = true → ∃ index, decode w = .ok (.read index)) ∧
    ∀ ch, pwmOut t ch = pwmOut s ch) ∧
  (∀ (s : State) (c : BitVec 4),
    tick { s with flt := true, cause := c } = { tick s with flt := true, cause := c })

/-- 60_exceptions.md R229 and 10_state.md R25: no step but reset's changes FLT or CAUSE of a faulted
block, and reset clears both. -/
def Obligations.OnlyResetClearsAFault : Prop :=
  ∀ s t : State, s.flt = true → step s = .next t →
    ((nextEdge s).rst = false → t.flt = true ∧ t.cause = s.cause) ∧
    ((nextEdge s).rst = true → t.flt = false ∧ t.cause = 0)

/-- 10_state.md R37: a command's one response; with ok = 0 the command did not execute. -/
def Obligations.EveryCommandAnswersOnce : Prop :=
  ∀ (w : CommandWord) (s t : State), commandStep w s = .next t →
    t.phase = .responding ∧ rspValid t = true ∧ cmdReady t = false ∧
    (t.rspOk = false → t.flt = true ∧ t.rspData = t.cause.setWidth 16 ∧
      t = { s with flt := t.flt, cause := t.cause, rspOk := t.rspOk, rspData := t.rspData,
                   phase := t.phase }) ∧
    (t.rspOk = true → t.flt = s.flt ∧ t.cause = s.cause) ∧
    (t.rspOk = true → (decode w = .ok .configure ∨ (∃ ch d, decode w = .ok (.setDuty ch d)) ∨
      (∃ raw, decode w = .ok (.push raw))) → t.rspData = 0)

/-! ### The counter and the pins -/

/-- 43_pwm_driver.md R166: the tick, whatever FLT is, alone at a clock edge. -/
def Obligations.TickCountsAndWraps : Prop :=
  ∀ s : State, s.cnt.toNat ≤ s.params.top.toNat →
    (s.cfg = false → tick s = s) ∧
    (s.cfg = true → s.cnt = s.params.top → tick s = { s with cnt := 0, dutyAct := s.dutyPend }) ∧
    (s.cfg = true → s.cnt ≠ s.params.top →
      ∃ c, tick s = { s with cnt := c } ∧ c.toNat = s.cnt.toNat + 1) ∧
    ((nextEdge s).rst = false → (nextEdge s).pwmTick = true → s.phase = .responding →
      (nextEdge s).rspReady = false → step s = .next (tick (dropEdge s)))

/-- 43_pwm_driver.md R166, 20_memory.md R59: an edge with pwm_tick = 1 is one tick and what the edge
does without it, in the order the edge says (the model's `tickFirst`, assumption log 5). -/
def Obligations.EveryTickEdgeIsOneTick : Prop :=
  ∀ s : State, (nextEdge s).rst = false → (nextEdge s).pwmTick = true →
    let quiet := { nextEdge s with pwmTick := false } :: s.inputs.tail
    ((nextEdge s).tickFirst = false → step s = afterNext (step { s with inputs := quiet }) tick) ∧
    ((nextEdge s).tickFirst = true → step s = step (tick { s with inputs := quiet }))

/-- 43_pwm_driver.md R167: one period of the driven channel's waveform. -/
def Obligations.WaveformOfOnePeriod : Prop :=
  ∀ s : State, BlockInv s → s.cfg = true → s.cnt = 0 →
    let duty := (dutyActAt s s.params.outCh).toNat
    let period := s.params.top.toNat + 1
    highTicks s.params.outCh period s = min duty period ∧
    (∀ k, k < period → (ticks k s).cnt.toNat = k ∧
      (pwmOut (ticks k s) s.params.outCh = true ↔ k < duty)) ∧
    (duty = 0 → highTicks s.params.outCh period s = 0) ∧
    (s.params.top.toNat < duty → highTicks s.params.outCh period s = period) ∧
    (s.params.top = 0xFFFF → duty = 65535 → highTicks s.params.outCh period s = 65535)

/-- 10_state.md R38: the output signals. -/
def Obligations.OutputSignals : Prop :=
  ∀ (s : State) (ch : Nat) (duty : U16), s.dutyAct[ch]? = some duty →
    (pwmOut s ch = true ↔ s.cfg = true ∧ ch = s.params.outCh ∧ s.cnt.toNat < duty.toNat) ∧
    (ch ≠ s.params.outCh → pwmOut s ch = false) ∧
    faultOut s = s.flt

/-- 70_reset_and_hazards.md R270: a duty that a command has just written is in force after the next
wrap and not before, and READ shows when. -/
def Obligations.NewDutyWaitsForTheWrap : Prop :=
  ∀ (s t : State) (i : Instr) (ch : Nat) (d : U16), BlockInv s → s.cfg = true → ch < s.params.numCh →
    exec i s = .next t → t.flt = false →
    (i = .setDuty (BitVec.ofNat 8 ch) d ∨
      (∃ raw, i = .cycle raw ∧ ch = s.params.outCh ∧ t.rspData = d)) →
    let left := s.params.top.toNat - s.cnt.toNat + 1
    1 ≤ left ∧ left ≤ s.params.top.toNat + 1 ∧
    (∀ k, k < left → dutyActAt (ticks k t) ch = dutyActAt s ch) ∧
    dutyActAt (ticks left t) ch = d ∧
    (∀ k, Answers (.read (BitVec.ofNat 8 (0x0C + ch))) (ticks k t) (dutyActAt (ticks k t) ch))

/-- 70_reset_and_hazards.md R271: of two writes to a channel within one period, the second alone
takes effect. -/
def Obligations.LastDutyBeforeTheWrapWins : Prop :=
  ∀ (s : State) (channel : U8) (d e : U16) (k : Nat), BlockInv s → s.flt = false → s.cfg = true →
    channel.toNat < s.params.numCh → k < s.params.top.toNat - s.cnt.toNat + 1 →
    ∃ a b c, exec (.setDuty channel d) s = .next a ∧ exec (.setDuty channel e) (ticks k a) = .next b ∧
      exec (.setDuty channel e) (ticks k s) = .next c ∧ b = c ∧
      (∀ j, k + j ≤ s.params.top.toNat - s.cnt.toNat →
        dutyActAt (ticks j b) channel.toNat = dutyActAt s channel.toNat) ∧
      dutyActAt (ticks (s.params.top.toNat - s.cnt.toNat + 1 - k) b) channel.toNat = e

/-- 70_reset_and_hazards.md R274: the period after CONFIGURE is dark, whatever commands run in it, and
the first wrap brings the first duties. -/
def Obligations.FirstPeriodIsDark : Prop :=
  ∀ (s a t : State) (actions : List Action), BlockInv s → s.flt = false → s.cfg = false →
    exec .configure s = .next a → runActions actions a = .next t → Action.reset ∉ actions →
    tickCount actions ≤ s.params.top.toNat →
    (∀ ch, pwmOut t ch = false) ∧
    (tickCount actions = s.params.top.toNat → (tick t).dutyAct = t.dutyPend ∧ (tick t).cnt = 0)

/-! ### Reset and configuration -/

/-- 70_reset_and_hazards.md R260, R263, R264: at an edge with rst = 1 every element takes its reset
value, whatever the state was, a command in flight included; the configuration stays. -/
def Obligations.ResetRestoresEveryElement : Prop :=
  ∀ s : State, (nextEdge s).rst = true → ∃ t, step s = .next t ∧
    t.params = s.params ∧ t.cfg = false ∧ t.flt = false ∧ t.cause = 0 ∧
    t.win = List.replicate s.params.n 0 ∧ t.wp = 0 ∧ t.fill = 0 ∧ t.sum = 0 ∧ t.cnt = 0 ∧
    t.dutyPend = List.replicate s.params.numCh 0 ∧
    t.dutyAct = List.replicate s.params.numCh 0 ∧
    t.diagAvg = 0 ∧ t.diagClamped = 0 ∧ t.diagBright = 0 ∧ t.diagDuty = 0 ∧
    rspValid t = false ∧ cmdReady t = true ∧
    ∀ (w : CommandWord) (k : Nat), step { s with phase := .executing w k } = .next t

/-- 70_reset_and_hazards.md R261: after reset the block is unconfigured and unfaulted, its pins are
low, and edges at which no command is offered change nothing but the pins consumed, ticks included. -/
def Obligations.QuietAfterReset : Prop :=
  ∀ (p : Params) (es : List Edge), (∀ e ∈ es, e.rst = false ∧ e.cmdValid = false) →
    let s := { State.resetFor p with inputs := es }
    s.cfg = false ∧ s.flt = false ∧ faultOut s = false ∧ cmdReady s = true ∧
    (∀ ch, pwmOut s ch = false) ∧
    ∀ k, Sys2Proof.core.run k s = .next { s with inputs := es.drop k }

/-- 00_scope.md R8, 60_exceptions.md R223: a block is elaborated exactly when every clause of R8 about
its numeric parameters holds, and is refused otherwise. CMD_LATENCY ≥ 1 is 70_reset_and_hazards.md
R272's. -/
def Obligations.IllegalConfigurationIsRefused : Prop :=
  ∀ p : RawParams,
    let legal := 1 ≤ p.n ∧ p.n ≤ 255 ∧ p.minDist.toNat < p.maxDist.toNat ∧ 1 ≤ p.top.toNat ∧
      p.top.toNat ≤ 0xFFFF ∧ 1 ≤ p.numCh ∧ p.numCh ≤ 4 ∧ p.outCh < p.numCh ∧ 1 ≤ p.cmdLatency
    (legal → ∃ q : Params, q.toRawParams = p ∧ launch p = .next (State.resetFor q)) ∧
    (¬ legal → launch p = .refused .illegalConfiguration)

/-- 43_pwm_driver.md R168: no step changes the configuration, and no SET_DUTY, CYCLE or tick changes
CFG. -/
def Obligations.ConfigurationNeverChanges : Prop :=
  (∀ s t : State, step s = .next t → t.params = s.params) ∧
  (∀ s : State, (tick s).params = s.params ∧ (tick s).cfg = s.cfg) ∧
  (∀ (s t : State) (channel : U8) (duty : U16),
    exec (.setDuty channel duty) s = .next t → t.params = s.params ∧ t.cfg = s.cfg) ∧
  (∀ (s t : State) (raw : U16),
    exec (.cycle raw) s = .next t → t.params = s.params ∧ t.cfg = s.cfg)

/-- 43_pwm_driver.md R161 and 10_state.md R24: CFG rises only where an unfaulted block's CONFIGURE
commits, falls only at reset, and SET_DUTY is only valid while it is 1. -/
def Obligations.ConfiguredOnlyByConfigure : Prop :=
  (∀ s t : State, step s = .next t → s.cfg = false → t.cfg = true →
    ∃ w, (nextEdge s).rst = false ∧ s.phase = .executing w 0 ∧ decode w = .ok .configure ∧
      s.flt = false) ∧
  (∀ s t : State, step s = .next t → s.cfg = true → t.cfg = false → (nextEdge s).rst = true) ∧
  (∀ (s : State) (channel : U8) (duty : U16), s.flt = false → s.cfg = false →
    Traps (.setDuty channel duty) s 2)

/-! ### Who writes what -/

/-- 10_state.md R31: only a CYCLE that succeeds writes the DIAG registers. -/
def Obligations.DiagWrittenOnlyByCycle : Prop :=
  (∀ (w : CommandWord) (s t : State), commandStep w s = .next t →
    (t.diagAvg, t.diagClamped, t.diagBright, t.diagDuty) ≠
      (s.diagAvg, s.diagClamped, s.diagBright, s.diagDuty) →
    (∃ raw, decode w = .ok (.cycle raw)) ∧ t.rspOk = true) ∧
  (∀ s : State, (tick s).diagAvg = s.diagAvg ∧ (tick s).diagClamped = s.diagClamped ∧
    (tick s).diagBright = s.diagBright ∧ (tick s).diagDuty = s.diagDuty)

/-- 10_state.md R32: who writes the duty registers. -/
def Obligations.DutyRegistersWrittenOnlyByTheirOwners : Prop :=
  (∀ (w : CommandWord) (s t : State), commandStep w s = .next t →
    t.dutyAct = s.dutyAct ∧
    ∀ ch, dutyPendAt t ch ≠ dutyPendAt s ch →
      (∃ channel duty, decode w = .ok (.setDuty channel duty) ∧ channel.toNat = ch) ∨
      (∃ raw, decode w = .ok (.cycle raw) ∧ ch = s.params.outCh)) ∧
  (∀ s : State, (tick s).dutyPend = s.dutyPend ∧
    ((tick s).dutyAct ≠ s.dutyAct →
      s.cfg = true ∧ s.cnt = s.params.top ∧ (tick s).dutyAct = s.dutyPend)) ∧
  (∀ (s : State) (l : List U16), ∀ ch, pwmOut { s with dutyPend := l } ch = pwmOut s ch)

/-- 20_memory.md R52, 10_state.md R26: only a push writes the window, one slot, at WP; no command but
CONFIGURE writes CNT (10_state.md R30), and the tick leaves the window alone. -/
def Obligations.WindowAndCounterWrittenOnlyByTheirOwners : Prop :=
  (∀ (w : CommandWord) (s t : State), commandStep w s = .next t →
    ((t.win, t.wp, t.fill, t.sum) ≠ (s.win, s.wp, s.fill, s.sum) →
      ∃ raw, (decode w = .ok (.push raw) ∨ decode w = .ok (.cycle raw)) ∧
        t.win = s.win.set s.wp.toNat raw) ∧
    (t.cnt ≠ s.cnt → decode w = .ok .configure ∧ t.cnt = 0)) ∧
  (∀ s : State, (tick s).win = s.win ∧ (tick s).wp = s.wp ∧ (tick s).fill = s.fill ∧
    (tick s).sum = s.sum)

/-- 20_memory.md R56: READ, AVERAGE, MAP and LOOKUP change nothing but the response when they succeed
and answer the same again; a second SET_DUTY of the same value changes nothing; a second CONFIGURE
faults. -/
def Obligations.ReadOnlyCommandsAndIdempotence : Prop :=
  (∀ (i : Instr) (s t : State), exec i s = .next t → t.rspOk = true →
    (i = .average ∨ (∃ x, i = .map x) ∨ (∃ x, i = .lookup x) ∨ (∃ x, i = .read x)) →
    t = { s with rspOk := true, rspData := t.rspData, phase := .responding } ∧
    exec i t = .next t) ∧
  (∀ (s t : State) (channel : U8) (duty : U16), exec (.setDuty channel duty) s = .next t →
    t.rspOk = true → exec (.setDuty channel duty) t = .next t) ∧
  (∀ s t : State, exec .configure s = .next t → t.rspOk = true → Traps .configure t 5)

/-! ### The clock edge -/

/-- 60_exceptions.md R225, 20_memory.md R59, R228: a command that is due at an edge without reset runs
as `exec` of the decoded command, before or after a tick of that edge as the edge says (the
model's `tickFirst`, assumption log 5). -/
def Obligations.StepRunsTheDecodedCommand : Prop :=
  ∀ (s : State) (w : CommandWord) (i : Instr), s.phase = .executing w 0 → decode w = .ok i →
    (nextEdge s).rst = false →
    ((nextEdge s).pwmTick = false → step s = exec i (dropEdge s)) ∧
    ((nextEdge s).pwmTick = true → (nextEdge s).tickFirst = false →
      step s = afterNext (exec i (dropEdge s)) tick) ∧
    ((nextEdge s).pwmTick = true → (nextEdge s).tickFirst = true →
      step s = exec i (tick (dropEdge s)))

/-- 10_state.md R39: the handshake at an edge without reset and tick. The model's own choices in it:
the command's index (assumption log 8), the count of edges left (log 9), and that RSP_OK and
RSP_DATA keep their values when no response is pending (log 6). -/
def Obligations.HandshakeOfTheCommandPort : Prop :=
  ∀ s : State, (nextEdge s).rst = false → (nextEdge s).pwmTick = false →
    (cmdReady s = true → (nextEdge s).cmdValid = true → step s = .next
      { s with phase := .executing (nextEdge s).cmdData (s.params.cmdLatency - 1),
               cmdIndex := s.cmdIndex + 1, inputs := s.inputs.tail }) ∧
    (cmdReady s = true → (nextEdge s).cmdValid = false →
      step s = .next { s with inputs := s.inputs.tail }) ∧
    (rspValid s = true → (nextEdge s).rspReady = true →
      step s = .next { s with phase := .ready, inputs := s.inputs.tail }) ∧
    (rspValid s = true → (nextEdge s).rspReady = false →
      step s = .next { s with inputs := s.inputs.tail }) ∧
    (∀ w k, s.phase = .executing w (k + 1) →
      step s = .next { s with phase := .executing w k, inputs := s.inputs.tail })

/-- 70_reset_and_hazards.md R272, 10_state.md R39: a command offered to a ready block commits, with
its response, CMD_LATENCY edges after the edge that accepts it, at edges without reset and tick.
The model's own choices in it: how the edges are counted (assumption log 9), and that RSP_OK and
RSP_DATA keep their values until the commit (log 6). -/
def Obligations.CommandCompletesAfterItsLatency : Prop :=
  ∀ (s : State) (first : Edge) (es rest : List Edge), BlockInv s → s.phase = .ready →
    s.inputs = first :: es ++ rest → first.cmdValid = true → es.length = s.params.cmdLatency →
    (∀ e ∈ first :: es, e.rst = false ∧ e.pwmTick = false) →
    ∃ t, Sys2Proof.core.run (s.params.cmdLatency + 1) s = .next t ∧ rspValid t = true ∧
      commandStep first.cmdData { s with cmdIndex := s.cmdIndex + 1, inputs := rest } = .next t ∧
      ∀ k, k < s.params.cmdLatency → ∃ u, Sys2Proof.core.run (k + 1) s = .next u ∧
        cmdReady u = false ∧ rspValid u = false ∧ registersOf u = registersOf s

/-- 10_state.md R20, 60_exceptions.md R228: any run of clock edges does to the block's registers what
its commands, ticks and resets do one after another. The model's own choices in it: the bit that
orders a tick and a command of one edge (assumption log 5), and that RSP_OK and RSP_DATA keep their
values when no response is pending (log 6). -/
def Obligations.ClockEdgesRefineTransactions : Prop :=
  ∀ (k : Nat) (s t : State), Sys2Proof.core.run k s = .next t →
    ∃ u, runActions (actionsOver k s) s = .next u ∧ registersOf u = registersOf t

/-- 20_memory.md R59: every order of commands, ticks and resets that can run from a ready block is the
order of some run of clock edges, to the same registers. The model's own choice in it: RSP_OK and
RSP_DATA keep the last response once it is taken (assumption log 6). -/
def Obligations.EveryInterleavingHasItsEdges : Prop :=
  ∀ (actions : List Action) (s t : State), s.phase = .ready → runActions actions s = .next t →
    ∃ (es : List Edge) (u : State),
      Sys2Proof.core.run es.length { s with inputs := es } = .next u ∧
      actionsOver es.length { s with inputs := es } = actions ∧ u.phase = .ready ∧
      registersOf u = registersOf t

/-! ### Invariants -/

/-- 70_reset_and_hazards.md R260, R262: the launch state of every block meets the invariant. -/
def Obligations.ResetMeetsTheInvariant : Prop :=
  (∀ p : Params, BlockInv (State.resetFor p)) ∧ BlockInv State.reset

/-- 10_state.md R29 and the other fields of `BlockInv`: from a state that meets the invariant every step
goes on, to a state that meets it. -/
def Obligations.StepKeepsTheInvariant : Prop :=
  ∀ s : State, BlockInv s → ∃ t, step s = .next t ∧ BlockInv t

/-- 10_state.md R31, 44_pipeline.md R183: at launch the DIAG registers are consistent, and every step
keeps them so: all 0, or an average with its clamp, its map and the table's entry there. -/
def Obligations.StepKeepsDiagConsistent : Prop :=
  (∀ p : Params, DiagConsistent (State.resetFor p)) ∧
  ∀ s t : State, DiagConsistent s → step s = .next t → DiagConsistent t

/-- 70_reset_and_hazards.md R272, "every command completes": from launch, whatever the pins do, no
clock edge stops. The one stop a step has, `windowSlotMissing`, is the model's (assumption log 7). -/
def Obligations.NoRunEverStops : Prop :=
  ∀ (p : Params) (es : List Edge) (k : Nat),
    SafeRun k { State.resetFor p with inputs := es }
end

