-- ==== Sys2Proof/Laws/Config.lean ====
section
/-! SUPPORT. What is known of every configuration (00_scope.md R8) and of every gamma table (R9). -/

namespace Sys2Proof.Laws

/-- 00_scope.md R8, clause by clause. -/
theorem params_bounds (p : Params) :
    1 ≤ p.n ∧ p.n ≤ 255 ∧ p.minDist.toNat < p.maxDist.toNat ∧ 1 ≤ p.top.toNat ∧
    1 ≤ p.numCh ∧ p.numCh ≤ 4 ∧ p.outCh < p.numCh ∧ 1 ≤ p.cmdLatency := by
  have h := p.isLegal
  simp only [RawParams.legal, Bool.and_eq_true, decide_eq_true_eq] at h
  obtain ⟨⟨⟨⟨⟨⟨⟨h1, h2⟩, h3⟩, h4⟩, h5⟩, h6⟩, h7⟩, h8⟩ := h
  exact ⟨h1, h2, BitVec.lt_def.mp h3, BitVec.le_def.mp h4, h5, h6, h7, h8⟩

theorem n_pos (p : Params) : 0 < p.n := (params_bounds p).1
theorem n_le (p : Params) : p.n ≤ 255 := (params_bounds p).2.1
theorem min_lt_max (p : Params) : p.minDist.toNat < p.maxDist.toNat := (params_bounds p).2.2.1
theorem top_pos (p : Params) : 0 < p.top.toNat := (params_bounds p).2.2.2.1
theorem numCh_le (p : Params) : p.numCh ≤ 4 := (params_bounds p).2.2.2.2.2.1
theorem outCh_lt (p : Params) : p.outCh < p.numCh := (params_bounds p).2.2.2.2.2.2.1
theorem cmdLatency_pos (p : Params) : 0 < p.cmdLatency := (params_bounds p).2.2.2.2.2.2.2

theorem runningMax_le_succ (raw : U8 → U16) (k : Nat) :
    (Config.runningMax raw k).toNat ≤ (Config.runningMax raw (k + 1)).toNat := by
  rw [Config.runningMax]
  split <;> omega

/-- A legal table is its own running maximum. -/
theorem runningMax_of_legal {raw : U8 → U16} (h : Config.LegalGamma raw) (k : Nat) (hk : k ≤ 255) :
    Config.runningMax raw k = raw (BitVec.ofNat 8 k) := by
  induction k with
  | zero => rfl
  | succ k ih =>
    have hstep := h.1 (BitVec.ofNat 8 k) (by simp only [BitVec.toNat_ofNat]; omega)
    have hadd : BitVec.ofNat 8 k + 1 = BitVec.ofNat 8 (k + 1) := by
      apply BitVec.eq_of_toNat_eq; simp
    rw [Config.runningMax, ih (by omega), if_pos (by rw [← hadd]; exact hstep)]

/-- Every table that `Config.legalTable` makes satisfies 00_scope.md R9. -/
theorem legalTable_legal (raw : U8 → U16) : Config.LegalGamma (Config.legalTable raw) := by
  refine ⟨fun i hi => ?_, rfl, rfl⟩
  have hsucc : (i + 1).toNat = i.toNat + 1 := by rw [BitVec.toNat_add]; simp; omega
  unfold Config.legalTable
  by_cases h0 : i = 0
  · simp [h0]
  by_cases h255 : i + 1 = 255
  · have := (if i = 0 then (0 : U16) else if i = 255 then 65535 else
      Config.runningMax raw i.toNat).isLt
    rw [h255, if_neg (by decide : (255 : U8) ≠ 0), if_pos rfl]
    exact Nat.le_of_lt_succ this
  have hne : i + 1 ≠ 0 := fun h => by rw [h] at hsucc; simp at hsucc
  have hi255 : i ≠ 255 := fun h => by subst h; simp at hi
  rw [if_neg h0, if_neg hi255, if_neg hne, if_neg h255, hsucc]
  exact runningMax_le_succ raw i.toNat

/-- Every legal table arises: `Config.legalTable` leaves it as it is. So what is proved of
`Config.gamma` is proved of every table that 00_scope.md R9 allows. -/
theorem legalTable_of_legal {raw : U8 → U16} (h : Config.LegalGamma raw) (i : U8) :
    Config.legalTable raw i = raw i := by
  unfold Config.legalTable
  split
  · next h0 => rw [h0]; exact h.2.1.symm
  split
  · next h255 => rw [h255]; exact h.2.2.symm
  · rw [runningMax_of_legal h _ (by have := i.isLt; omega), BitVec.ofNat_toNat]
    simp

/-- GAMMA satisfies 00_scope.md R9. -/
theorem gamma_legal : Config.LegalGamma Config.gamma := legalTable_legal Config.gammaEntry

end Sys2Proof.Laws
end

