-- ==== Sys2Proof/Laws/Encoding.lean ====
section
/-! SUPPORT. Fields of a word made of fields, and words as the numbers of 30_encoding.md R70. -/

namespace Sys2Proof.Laws

/-- `word = OP × 2^24 + A × 2^16 + D` (30_encoding.md R70). -/
theorem makeWord_toNat (op a : U8) (d : U16) :
    (makeWord op a d).toNat = op.toNat * 2 ^ 24 + a.toNat * 2 ^ 16 + d.toNat := by
  have := a.isLt
  have := d.isLt
  rw [makeWord, BitVec.toNat_append, BitVec.toNat_append, ← Nat.shiftLeft_add_eq_or_of_lt (by omega),
    ← Nat.shiftLeft_add_eq_or_of_lt (by omega)]
  simp only [Nat.shiftLeft_eq]
  omega

theorem fieldOP_toNat (w : CommandWord) : (fieldOP w).toNat = w.toNat / 2 ^ 24 := by
  have := w.isLt
  simp only [fieldOP, BitVec.extractLsb'_toNat, Nat.shiftRight_eq_div_pow]
  omega

theorem fieldA_toNat (w : CommandWord) : (fieldA w).toNat = w.toNat / 2 ^ 16 % 2 ^ 8 := by
  simp only [fieldA, BitVec.extractLsb'_toNat, Nat.shiftRight_eq_div_pow]

theorem fieldD_toNat (w : CommandWord) : (fieldD w).toNat = w.toNat % 2 ^ 16 := by
  simp [fieldD, BitVec.extractLsb'_toNat]

@[simp] theorem fieldOP_makeWord (op a : U8) (d : U16) : fieldOP (makeWord op a d) = op := by
  have := op.isLt; have := a.isLt; have := d.isLt
  apply BitVec.eq_of_toNat_eq
  rw [fieldOP_toNat, makeWord_toNat]; omega

@[simp] theorem fieldA_makeWord (op a : U8) (d : U16) : fieldA (makeWord op a d) = a := by
  have := op.isLt; have := a.isLt; have := d.isLt
  apply BitVec.eq_of_toNat_eq
  rw [fieldA_toNat, makeWord_toNat]; omega

@[simp] theorem fieldD_makeWord (op a : U8) (d : U16) : fieldD (makeWord op a d) = d := by
  have := op.isLt; have := a.isLt; have := d.isLt
  apply BitVec.eq_of_toNat_eq
  rw [fieldD_toNat, makeWord_toNat]; omega

/-- A word is its three fields (30_encoding.md R71). -/
theorem makeWord_fields (w : CommandWord) : makeWord (fieldOP w) (fieldA w) (fieldD w) = w := by
  apply BitVec.eq_of_toNat_eq
  rw [makeWord_toNat, fieldOP_toNat, fieldA_toNat, fieldD_toNat]; omega

/-- A mask made of fields masks field by field. -/
theorem makeWord_and (op a op' a' : U8) (d d' : U16) :
    makeWord op a d &&& makeWord op' a' d' = makeWord (op &&& op') (a &&& a') (d &&& d') := by
  apply BitVec.eq_of_getLsbD_eq
  intro i _
  simp only [makeWord, BitVec.getLsbD_and, BitVec.getLsbD_append]
  split
  · rfl
  · split <;> rfl

theorem makeWord_inj {op a op' a' : U8} {d d' : U16} (h : makeWord op a d = makeWord op' a' d') :
    op = op' ∧ a = a' ∧ d = d' := by
  refine ⟨?_, ?_, ?_⟩
  · simpa using congrArg fieldOP h
  · simpa using congrArg fieldA h
  · simpa using congrArg fieldD h

end Sys2Proof.Laws
end

