-- ==== Sys2Proof/Laws/State.lean ====
section
/-! SUPPORT. What each field holds after each record update of Machine/Ops.lean and
Machine/Clock.lean: one lemma per field per update. -/

namespace Sys2Proof.Laws

open Sys2Proof.Machine

@[simp] theorem respond_params (ok : Bool) (data : U16) (s : State) :
    (respond ok data s).params = s.params := rfl
@[simp] theorem respond_cfg (ok : Bool) (data : U16) (s : State) :
    (respond ok data s).cfg = s.cfg := rfl
@[simp] theorem respond_flt (ok : Bool) (data : U16) (s : State) :
    (respond ok data s).flt = s.flt := rfl
@[simp] theorem respond_cause (ok : Bool) (data : U16) (s : State) :
    (respond ok data s).cause = s.cause := rfl
@[simp] theorem respond_win (ok : Bool) (data : U16) (s : State) :
    (respond ok data s).win = s.win := rfl
@[simp] theorem respond_wp (ok : Bool) (data : U16) (s : State) :
    (respond ok data s).wp = s.wp := rfl
@[simp] theorem respond_fill (ok : Bool) (data : U16) (s : State) :
    (respond ok data s).fill = s.fill := rfl
@[simp] theorem respond_sum (ok : Bool) (data : U16) (s : State) :
    (respond ok data s).sum = s.sum := rfl
@[simp] theorem respond_cnt (ok : Bool) (data : U16) (s : State) :
    (respond ok data s).cnt = s.cnt := rfl
@[simp] theorem respond_dutyPend (ok : Bool) (data : U16) (s : State) :
    (respond ok data s).dutyPend = s.dutyPend := rfl
@[simp] theorem respond_dutyAct (ok : Bool) (data : U16) (s : State) :
    (respond ok data s).dutyAct = s.dutyAct := rfl
@[simp] theorem respond_diagAvg (ok : Bool) (data : U16) (s : State) :
    (respond ok data s).diagAvg = s.diagAvg := rfl
@[simp] theorem respond_diagClamped (ok : Bool) (data : U16) (s : State) :
    (respond ok data s).diagClamped = s.diagClamped := rfl
@[simp] theorem respond_diagBright (ok : Bool) (data : U16) (s : State) :
    (respond ok data s).diagBright = s.diagBright := rfl
@[simp] theorem respond_diagDuty (ok : Bool) (data : U16) (s : State) :
    (respond ok data s).diagDuty = s.diagDuty := rfl
@[simp] theorem respond_rspOk (ok : Bool) (data : U16) (s : State) :
    (respond ok data s).rspOk = ok := rfl
@[simp] theorem respond_rspData (ok : Bool) (data : U16) (s : State) :
    (respond ok data s).rspData = data := rfl
@[simp] theorem respond_phase (ok : Bool) (data : U16) (s : State) :
    (respond ok data s).phase = .responding := rfl
@[simp] theorem respond_cmdIndex (ok : Bool) (data : U16) (s : State) :
    (respond ok data s).cmdIndex = s.cmdIndex := rfl
@[simp] theorem respond_inputs (ok : Bool) (data : U16) (s : State) :
    (respond ok data s).inputs = s.inputs := rfl

@[simp] theorem pushOp_params (raw : U16) (s : State) : (pushOp raw s).params = s.params := rfl
@[simp] theorem pushOp_cfg (raw : U16) (s : State) : (pushOp raw s).cfg = s.cfg := rfl
@[simp] theorem pushOp_flt (raw : U16) (s : State) : (pushOp raw s).flt = s.flt := rfl
@[simp] theorem pushOp_cause (raw : U16) (s : State) : (pushOp raw s).cause = s.cause := rfl
@[simp] theorem pushOp_win (raw : U16) (s : State) :
    (pushOp raw s).win = s.win.set s.wp.toNat raw := rfl
@[simp] theorem pushOp_wp (raw : U16) (s : State) :
    (pushOp raw s).wp = BitVec.ofNat 8 ((s.wp.toNat + 1) % s.params.n) := rfl
@[simp] theorem pushOp_fill (raw : U16) (s : State) :
    (pushOp raw s).fill = BitVec.ofNat 8 (min (s.fill.toNat + 1) s.params.n) := rfl
@[simp] theorem pushOp_sum (raw : U16) (s : State) : (pushOp raw s).sum = sumAfterPush raw s := rfl
@[simp] theorem pushOp_cnt (raw : U16) (s : State) : (pushOp raw s).cnt = s.cnt := rfl
@[simp] theorem pushOp_dutyPend (raw : U16) (s : State) :
    (pushOp raw s).dutyPend = s.dutyPend := rfl
@[simp] theorem pushOp_dutyAct (raw : U16) (s : State) : (pushOp raw s).dutyAct = s.dutyAct := rfl
@[simp] theorem pushOp_diagAvg (raw : U16) (s : State) : (pushOp raw s).diagAvg = s.diagAvg := rfl
@[simp] theorem pushOp_diagClamped (raw : U16) (s : State) :
    (pushOp raw s).diagClamped = s.diagClamped := rfl
@[simp] theorem pushOp_diagBright (raw : U16) (s : State) :
    (pushOp raw s).diagBright = s.diagBright := rfl
@[simp] theorem pushOp_diagDuty (raw : U16) (s : State) :
    (pushOp raw s).diagDuty = s.diagDuty := rfl
@[simp] theorem pushOp_rspOk (raw : U16) (s : State) : (pushOp raw s).rspOk = s.rspOk := rfl
@[simp] theorem pushOp_rspData (raw : U16) (s : State) : (pushOp raw s).rspData = s.rspData := rfl
@[simp] theorem pushOp_phase (raw : U16) (s : State) : (pushOp raw s).phase = s.phase := rfl
@[simp] theorem pushOp_cmdIndex (raw : U16) (s : State) :
    (pushOp raw s).cmdIndex = s.cmdIndex := rfl
@[simp] theorem pushOp_inputs (raw : U16) (s : State) : (pushOp raw s).inputs = s.inputs := rfl

@[simp] theorem setDutyPend_params (ch : Nat) (duty : U16) (s : State) :
    (setDutyPend ch duty s).params = s.params := rfl
@[simp] theorem setDutyPend_cfg (ch : Nat) (duty : U16) (s : State) :
    (setDutyPend ch duty s).cfg = s.cfg := rfl
@[simp] theorem setDutyPend_flt (ch : Nat) (duty : U16) (s : State) :
    (setDutyPend ch duty s).flt = s.flt := rfl
@[simp] theorem setDutyPend_cause (ch : Nat) (duty : U16) (s : State) :
    (setDutyPend ch duty s).cause = s.cause := rfl
@[simp] theorem setDutyPend_win (ch : Nat) (duty : U16) (s : State) :
    (setDutyPend ch duty s).win = s.win := rfl
@[simp] theorem setDutyPend_wp (ch : Nat) (duty : U16) (s : State) :
    (setDutyPend ch duty s).wp = s.wp := rfl
@[simp] theorem setDutyPend_fill (ch : Nat) (duty : U16) (s : State) :
    (setDutyPend ch duty s).fill = s.fill := rfl
@[simp] theorem setDutyPend_sum (ch : Nat) (duty : U16) (s : State) :
    (setDutyPend ch duty s).sum = s.sum := rfl
@[simp] theorem setDutyPend_cnt (ch : Nat) (duty : U16) (s : State) :
    (setDutyPend ch duty s).cnt = s.cnt := rfl
@[simp] theorem setDutyPend_dutyPend (ch : Nat) (duty : U16) (s : State) :
    (setDutyPend ch duty s).dutyPend = s.dutyPend.set ch duty := rfl
@[simp] theorem setDutyPend_dutyAct (ch : Nat) (duty : U16) (s : State) :
    (setDutyPend ch duty s).dutyAct = s.dutyAct := rfl
@[simp] theorem setDutyPend_diagAvg (ch : Nat) (duty : U16) (s : State) :
    (setDutyPend ch duty s).diagAvg = s.diagAvg := rfl
@[simp] theorem setDutyPend_diagClamped (ch : Nat) (duty : U16) (s : State) :
    (setDutyPend ch duty s).diagClamped = s.diagClamped := rfl
@[simp] theorem setDutyPend_diagBright (ch : Nat) (duty : U16) (s : State) :
    (setDutyPend ch duty s).diagBright = s.diagBright := rfl
@[simp] theorem setDutyPend_diagDuty (ch : Nat) (duty : U16) (s : State) :
    (setDutyPend ch duty s).diagDuty = s.diagDuty := rfl
@[simp] theorem setDutyPend_rspOk (ch : Nat) (duty : U16) (s : State) :
    (setDutyPend ch duty s).rspOk = s.rspOk := rfl
@[simp] theorem setDutyPend_rspData (ch : Nat) (duty : U16) (s : State) :
    (setDutyPend ch duty s).rspData = s.rspData := rfl
@[simp] theorem setDutyPend_phase (ch : Nat) (duty : U16) (s : State) :
    (setDutyPend ch duty s).phase = s.phase := rfl
@[simp] theorem setDutyPend_cmdIndex (ch : Nat) (duty : U16) (s : State) :
    (setDutyPend ch duty s).cmdIndex = s.cmdIndex := rfl
@[simp] theorem setDutyPend_inputs (ch : Nat) (duty : U16) (s : State) :
    (setDutyPend ch duty s).inputs = s.inputs := rfl

@[simp] theorem latchDiag_params (avg clamped : U16) (bright : U8) (duty : U16) (s : State) :
    (latchDiag avg clamped bright duty s).params = s.params := rfl
@[simp] theorem latchDiag_cfg (avg clamped : U16) (bright : U8) (duty : U16) (s : State) :
    (latchDiag avg clamped bright duty s).cfg = s.cfg := rfl
@[simp] theorem latchDiag_flt (avg clamped : U16) (bright : U8) (duty : U16) (s : State) :
    (latchDiag avg clamped bright duty s).flt = s.flt := rfl
@[simp] theorem latchDiag_cause (avg clamped : U16) (bright : U8) (duty : U16) (s : State) :
    (latchDiag avg clamped bright duty s).cause = s.cause := rfl
@[simp] theorem latchDiag_win (avg clamped : U16) (bright : U8) (duty : U16) (s : State) :
    (latchDiag avg clamped bright duty s).win = s.win := rfl
@[simp] theorem latchDiag_wp (avg clamped : U16) (bright : U8) (duty : U16) (s : State) :
    (latchDiag avg clamped bright duty s).wp = s.wp := rfl
@[simp] theorem latchDiag_fill (avg clamped : U16) (bright : U8) (duty : U16) (s : State) :
    (latchDiag avg clamped bright duty s).fill = s.fill := rfl
@[simp] theorem latchDiag_sum (avg clamped : U16) (bright : U8) (duty : U16) (s : State) :
    (latchDiag avg clamped bright duty s).sum = s.sum := rfl
@[simp] theorem latchDiag_cnt (avg clamped : U16) (bright : U8) (duty : U16) (s : State) :
    (latchDiag avg clamped bright duty s).cnt = s.cnt := rfl
@[simp] theorem latchDiag_dutyPend (avg clamped : U16) (bright : U8) (duty : U16) (s : State) :
    (latchDiag avg clamped bright duty s).dutyPend = s.dutyPend := rfl
@[simp] theorem latchDiag_dutyAct (avg clamped : U16) (bright : U8) (duty : U16) (s : State) :
    (latchDiag avg clamped bright duty s).dutyAct = s.dutyAct := rfl
@[simp] theorem latchDiag_diagAvg (avg clamped : U16) (bright : U8) (duty : U16) (s : State) :
    (latchDiag avg clamped bright duty s).diagAvg = avg := rfl
@[simp] theorem latchDiag_diagClamped (avg clamped : U16) (bright : U8) (duty : U16) (s : State) :
    (latchDiag avg clamped bright duty s).diagClamped = clamped := rfl
@[simp] theorem latchDiag_diagBright (avg clamped : U16) (bright : U8) (duty : U16) (s : State) :
    (latchDiag avg clamped bright duty s).diagBright = bright := rfl
@[simp] theorem latchDiag_diagDuty (avg clamped : U16) (bright : U8) (duty : U16) (s : State) :
    (latchDiag avg clamped bright duty s).diagDuty = duty := rfl
@[simp] theorem latchDiag_rspOk (avg clamped : U16) (bright : U8) (duty : U16) (s : State) :
    (latchDiag avg clamped bright duty s).rspOk = s.rspOk := rfl
@[simp] theorem latchDiag_rspData (avg clamped : U16) (bright : U8) (duty : U16) (s : State) :
    (latchDiag avg clamped bright duty s).rspData = s.rspData := rfl
@[simp] theorem latchDiag_phase (avg clamped : U16) (bright : U8) (duty : U16) (s : State) :
    (latchDiag avg clamped bright duty s).phase = s.phase := rfl
@[simp] theorem latchDiag_cmdIndex (avg clamped : U16) (bright : U8) (duty : U16) (s : State) :
    (latchDiag avg clamped bright duty s).cmdIndex = s.cmdIndex := rfl
@[simp] theorem latchDiag_inputs (avg clamped : U16) (bright : U8) (duty : U16) (s : State) :
    (latchDiag avg clamped bright duty s).inputs = s.inputs := rfl

@[simp] theorem dropEdge_params (s : State) : (dropEdge s).params = s.params := rfl
@[simp] theorem dropEdge_cfg (s : State) : (dropEdge s).cfg = s.cfg := rfl
@[simp] theorem dropEdge_flt (s : State) : (dropEdge s).flt = s.flt := rfl
@[simp] theorem dropEdge_cause (s : State) : (dropEdge s).cause = s.cause := rfl
@[simp] theorem dropEdge_win (s : State) : (dropEdge s).win = s.win := rfl
@[simp] theorem dropEdge_wp (s : State) : (dropEdge s).wp = s.wp := rfl
@[simp] theorem dropEdge_fill (s : State) : (dropEdge s).fill = s.fill := rfl
@[simp] theorem dropEdge_sum (s : State) : (dropEdge s).sum = s.sum := rfl
@[simp] theorem dropEdge_cnt (s : State) : (dropEdge s).cnt = s.cnt := rfl
@[simp] theorem dropEdge_dutyPend (s : State) : (dropEdge s).dutyPend = s.dutyPend := rfl
@[simp] theorem dropEdge_dutyAct (s : State) : (dropEdge s).dutyAct = s.dutyAct := rfl
@[simp] theorem dropEdge_diagAvg (s : State) : (dropEdge s).diagAvg = s.diagAvg := rfl
@[simp] theorem dropEdge_diagClamped (s : State) : (dropEdge s).diagClamped = s.diagClamped := rfl
@[simp] theorem dropEdge_diagBright (s : State) : (dropEdge s).diagBright = s.diagBright := rfl
@[simp] theorem dropEdge_diagDuty (s : State) : (dropEdge s).diagDuty = s.diagDuty := rfl
@[simp] theorem dropEdge_rspOk (s : State) : (dropEdge s).rspOk = s.rspOk := rfl
@[simp] theorem dropEdge_rspData (s : State) : (dropEdge s).rspData = s.rspData := rfl
@[simp] theorem dropEdge_phase (s : State) : (dropEdge s).phase = s.phase := rfl
@[simp] theorem dropEdge_cmdIndex (s : State) : (dropEdge s).cmdIndex = s.cmdIndex := rfl
@[simp] theorem dropEdge_inputs (s : State) : (dropEdge s).inputs = s.inputs.tail := rfl

@[simp] theorem acceptCommand_params (w : CommandWord) (s : State) :
    (acceptCommand w s).params = s.params := rfl
@[simp] theorem acceptCommand_cfg (w : CommandWord) (s : State) :
    (acceptCommand w s).cfg = s.cfg := rfl
@[simp] theorem acceptCommand_flt (w : CommandWord) (s : State) :
    (acceptCommand w s).flt = s.flt := rfl
@[simp] theorem acceptCommand_cause (w : CommandWord) (s : State) :
    (acceptCommand w s).cause = s.cause := rfl
@[simp] theorem acceptCommand_win (w : CommandWord) (s : State) :
    (acceptCommand w s).win = s.win := rfl
@[simp] theorem acceptCommand_wp (w : CommandWord) (s : State) :
    (acceptCommand w s).wp = s.wp := rfl
@[simp] theorem acceptCommand_fill (w : CommandWord) (s : State) :
    (acceptCommand w s).fill = s.fill := rfl
@[simp] theorem acceptCommand_sum (w : CommandWord) (s : State) :
    (acceptCommand w s).sum = s.sum := rfl
@[simp] theorem acceptCommand_cnt (w : CommandWord) (s : State) :
    (acceptCommand w s).cnt = s.cnt := rfl
@[simp] theorem acceptCommand_dutyPend (w : CommandWord) (s : State) :
    (acceptCommand w s).dutyPend = s.dutyPend := rfl
@[simp] theorem acceptCommand_dutyAct (w : CommandWord) (s : State) :
    (acceptCommand w s).dutyAct = s.dutyAct := rfl
@[simp] theorem acceptCommand_diagAvg (w : CommandWord) (s : State) :
    (acceptCommand w s).diagAvg = s.diagAvg := rfl
@[simp] theorem acceptCommand_diagClamped (w : CommandWord) (s : State) :
    (acceptCommand w s).diagClamped = s.diagClamped := rfl
@[simp] theorem acceptCommand_diagBright (w : CommandWord) (s : State) :
    (acceptCommand w s).diagBright = s.diagBright := rfl
@[simp] theorem acceptCommand_diagDuty (w : CommandWord) (s : State) :
    (acceptCommand w s).diagDuty = s.diagDuty := rfl
@[simp] theorem acceptCommand_rspOk (w : CommandWord) (s : State) :
    (acceptCommand w s).rspOk = s.rspOk := rfl
@[simp] theorem acceptCommand_rspData (w : CommandWord) (s : State) :
    (acceptCommand w s).rspData = s.rspData := rfl
@[simp] theorem acceptCommand_phase (w : CommandWord) (s : State) :
    (acceptCommand w s).phase = .executing w (s.params.cmdLatency - 1) := rfl
@[simp] theorem acceptCommand_cmdIndex (w : CommandWord) (s : State) :
    (acceptCommand w s).cmdIndex = s.cmdIndex + 1 := rfl
@[simp] theorem acceptCommand_inputs (w : CommandWord) (s : State) :
    (acceptCommand w s).inputs = s.inputs := rfl

@[simp] theorem placeCommand_params (s : State) (w : CommandWord) :
    (placeCommand s w).params = s.params := rfl
@[simp] theorem placeCommand_cfg (s : State) (w : CommandWord) :
    (placeCommand s w).cfg = s.cfg := rfl
@[simp] theorem placeCommand_flt (s : State) (w : CommandWord) :
    (placeCommand s w).flt = s.flt := rfl
@[simp] theorem placeCommand_cause (s : State) (w : CommandWord) :
    (placeCommand s w).cause = s.cause := rfl
@[simp] theorem placeCommand_win (s : State) (w : CommandWord) :
    (placeCommand s w).win = s.win := rfl
@[simp] theorem placeCommand_wp (s : State) (w : CommandWord) : (placeCommand s w).wp = s.wp := rfl
@[simp] theorem placeCommand_fill (s : State) (w : CommandWord) :
    (placeCommand s w).fill = s.fill := rfl
@[simp] theorem placeCommand_sum (s : State) (w : CommandWord) :
    (placeCommand s w).sum = s.sum := rfl
@[simp] theorem placeCommand_cnt (s : State) (w : CommandWord) :
    (placeCommand s w).cnt = s.cnt := rfl
@[simp] theorem placeCommand_dutyPend (s : State) (w : CommandWord) :
    (placeCommand s w).dutyPend = s.dutyPend := rfl
@[simp] theorem placeCommand_dutyAct (s : State) (w : CommandWord) :
    (placeCommand s w).dutyAct = s.dutyAct := rfl
@[simp] theorem placeCommand_diagAvg (s : State) (w : CommandWord) :
    (placeCommand s w).diagAvg = s.diagAvg := rfl
@[simp] theorem placeCommand_diagClamped (s : State) (w : CommandWord) :
    (placeCommand s w).diagClamped = s.diagClamped := rfl
@[simp] theorem placeCommand_diagBright (s : State) (w : CommandWord) :
    (placeCommand s w).diagBright = s.diagBright := rfl
@[simp] theorem placeCommand_diagDuty (s : State) (w : CommandWord) :
    (placeCommand s w).diagDuty = s.diagDuty := rfl
@[simp] theorem placeCommand_rspOk (s : State) (w : CommandWord) :
    (placeCommand s w).rspOk = s.rspOk := rfl
@[simp] theorem placeCommand_rspData (s : State) (w : CommandWord) :
    (placeCommand s w).rspData = s.rspData := rfl
@[simp] theorem placeCommand_phase (s : State) (w : CommandWord) :
    (placeCommand s w).phase = .executing w 0 := rfl
@[simp] theorem placeCommand_cmdIndex (s : State) (w : CommandWord) :
    (placeCommand s w).cmdIndex = s.cmdIndex := rfl
@[simp] theorem placeCommand_inputs (s : State) (w : CommandWord) :
    (placeCommand s w).inputs = Edge.idle :: s.inputs := rfl

@[simp] theorem resetBlock_params (s : State) : (resetBlock s).params = s.params := rfl
@[simp] theorem resetBlock_cfg (s : State) : (resetBlock s).cfg = false := rfl
@[simp] theorem resetBlock_flt (s : State) : (resetBlock s).flt = false := rfl
@[simp] theorem resetBlock_cause (s : State) : (resetBlock s).cause = 0 := rfl
@[simp] theorem resetBlock_win (s : State) : (resetBlock s).win = List.replicate s.params.n 0 := rfl
@[simp] theorem resetBlock_wp (s : State) : (resetBlock s).wp = 0 := rfl
@[simp] theorem resetBlock_fill (s : State) : (resetBlock s).fill = 0 := rfl
@[simp] theorem resetBlock_sum (s : State) : (resetBlock s).sum = 0 := rfl
@[simp] theorem resetBlock_cnt (s : State) : (resetBlock s).cnt = 0 := rfl
@[simp] theorem resetBlock_dutyPend (s : State) :
    (resetBlock s).dutyPend = List.replicate s.params.numCh 0 := rfl
@[simp] theorem resetBlock_dutyAct (s : State) :
    (resetBlock s).dutyAct = List.replicate s.params.numCh 0 := rfl
@[simp] theorem resetBlock_diagAvg (s : State) : (resetBlock s).diagAvg = 0 := rfl
@[simp] theorem resetBlock_diagClamped (s : State) : (resetBlock s).diagClamped = 0 := rfl
@[simp] theorem resetBlock_diagBright (s : State) : (resetBlock s).diagBright = 0 := rfl
@[simp] theorem resetBlock_diagDuty (s : State) : (resetBlock s).diagDuty = 0 := rfl
@[simp] theorem resetBlock_rspOk (s : State) : (resetBlock s).rspOk = false := rfl
@[simp] theorem resetBlock_rspData (s : State) : (resetBlock s).rspData = 0 := rfl
@[simp] theorem resetBlock_phase (s : State) : (resetBlock s).phase = .ready := rfl
@[simp] theorem resetBlock_cmdIndex (s : State) : (resetBlock s).cmdIndex = s.cmdIndex := rfl
@[simp] theorem resetBlock_inputs (s : State) : (resetBlock s).inputs = s.inputs := rfl

@[simp] theorem cycleOp_params (raw : U16) (s : State) : (cycleOp raw s).params = s.params := rfl
@[simp] theorem cycleOp_cfg (raw : U16) (s : State) : (cycleOp raw s).cfg = s.cfg := rfl
@[simp] theorem cycleOp_flt (raw : U16) (s : State) : (cycleOp raw s).flt = s.flt := rfl
@[simp] theorem cycleOp_cause (raw : U16) (s : State) : (cycleOp raw s).cause = s.cause := rfl
@[simp] theorem cycleOp_win (raw : U16) (s : State) :
    (cycleOp raw s).win = s.win.set s.wp.toNat raw := rfl
@[simp] theorem cycleOp_wp (raw : U16) (s : State) :
    (cycleOp raw s).wp = BitVec.ofNat 8 ((s.wp.toNat + 1) % s.params.n) := rfl
@[simp] theorem cycleOp_fill (raw : U16) (s : State) :
    (cycleOp raw s).fill = BitVec.ofNat 8 (min (s.fill.toNat + 1) s.params.n) := rfl
@[simp] theorem cycleOp_sum (raw : U16) (s : State) :
    (cycleOp raw s).sum = sumAfterPush raw s := rfl
@[simp] theorem cycleOp_cnt (raw : U16) (s : State) : (cycleOp raw s).cnt = s.cnt := rfl
@[simp] theorem cycleOp_dutyPend (raw : U16) (s : State) :
    (cycleOp raw s).dutyPend = s.dutyPend.set s.params.outCh (cycleDuty raw s) := rfl
@[simp] theorem cycleOp_dutyAct (raw : U16) (s : State) : (cycleOp raw s).dutyAct = s.dutyAct := rfl
@[simp] theorem cycleOp_diagAvg (raw : U16) (s : State) :
    (cycleOp raw s).diagAvg = cycleAvg raw s := rfl
@[simp] theorem cycleOp_diagClamped (raw : U16) (s : State) :
    (cycleOp raw s).diagClamped = clampOp s.params (cycleAvg raw s) := rfl
@[simp] theorem cycleOp_diagBright (raw : U16) (s : State) :
    (cycleOp raw s).diagBright = mapOp s.params (cycleAvg raw s) := rfl
@[simp] theorem cycleOp_diagDuty (raw : U16) (s : State) :
    (cycleOp raw s).diagDuty = cycleDuty raw s := rfl
@[simp] theorem cycleOp_rspOk (raw : U16) (s : State) : (cycleOp raw s).rspOk = s.rspOk := rfl
@[simp] theorem cycleOp_rspData (raw : U16) (s : State) : (cycleOp raw s).rspData = s.rspData := rfl
@[simp] theorem cycleOp_phase (raw : U16) (s : State) : (cycleOp raw s).phase = s.phase := rfl
@[simp] theorem cycleOp_cmdIndex (raw : U16) (s : State) :
    (cycleOp raw s).cmdIndex = s.cmdIndex := rfl
@[simp] theorem cycleOp_inputs (raw : U16) (s : State) : (cycleOp raw s).inputs = s.inputs := rfl

@[simp] theorem raiseFault_params (c : Cause) (s : State) : (raiseFault c s).params = s.params := by
  unfold raiseFault; split <;> rfl
@[simp] theorem raiseFault_cfg (c : Cause) (s : State) : (raiseFault c s).cfg = s.cfg := by
  unfold raiseFault; split <;> rfl
@[simp] theorem raiseFault_win (c : Cause) (s : State) : (raiseFault c s).win = s.win := by
  unfold raiseFault; split <;> rfl
@[simp] theorem raiseFault_wp (c : Cause) (s : State) : (raiseFault c s).wp = s.wp := by
  unfold raiseFault; split <;> rfl
@[simp] theorem raiseFault_fill (c : Cause) (s : State) : (raiseFault c s).fill = s.fill := by
  unfold raiseFault; split <;> rfl
@[simp] theorem raiseFault_sum (c : Cause) (s : State) : (raiseFault c s).sum = s.sum := by
  unfold raiseFault; split <;> rfl
@[simp] theorem raiseFault_cnt (c : Cause) (s : State) : (raiseFault c s).cnt = s.cnt := by
  unfold raiseFault; split <;> rfl
@[simp] theorem raiseFault_dutyPend (c : Cause) (s : State) : (raiseFault c s).dutyPend = s.dutyPend := by
  unfold raiseFault; split <;> rfl
@[simp] theorem raiseFault_dutyAct (c : Cause) (s : State) : (raiseFault c s).dutyAct = s.dutyAct := by
  unfold raiseFault; split <;> rfl
@[simp] theorem raiseFault_diagAvg (c : Cause) (s : State) : (raiseFault c s).diagAvg = s.diagAvg := by
  unfold raiseFault; split <;> rfl
@[simp] theorem raiseFault_diagClamped (c : Cause) (s : State) : (raiseFault c s).diagClamped = s.diagClamped := by
  unfold raiseFault; split <;> rfl
@[simp] theorem raiseFault_diagBright (c : Cause) (s : State) : (raiseFault c s).diagBright = s.diagBright := by
  unfold raiseFault; split <;> rfl
@[simp] theorem raiseFault_diagDuty (c : Cause) (s : State) : (raiseFault c s).diagDuty = s.diagDuty := by
  unfold raiseFault; split <;> rfl
@[simp] theorem raiseFault_cmdIndex (c : Cause) (s : State) : (raiseFault c s).cmdIndex = s.cmdIndex := by
  unfold raiseFault; split <;> rfl
@[simp] theorem raiseFault_inputs (c : Cause) (s : State) : (raiseFault c s).inputs = s.inputs := by
  unfold raiseFault; split <;> rfl
@[simp] theorem raiseFault_rspOk (c : Cause) (s : State) : (raiseFault c s).rspOk = false := by
  unfold raiseFault; split <;> rfl
@[simp] theorem raiseFault_phase (c : Cause) (s : State) : (raiseFault c s).phase = .responding := by
  unfold raiseFault; split <;> rfl
@[simp] theorem raiseFault_flt (c : Cause) (s : State) : (raiseFault c s).flt = true := by
  unfold raiseFault; split <;> simp_all [respond]

@[simp] theorem tick_params (s : State) : (tick s).params = s.params := by
  unfold tick; split <;> (try split) <;> rfl
@[simp] theorem tick_cfg (s : State) : (tick s).cfg = s.cfg := by
  unfold tick; split <;> (try split) <;> rfl
@[simp] theorem tick_flt (s : State) : (tick s).flt = s.flt := by
  unfold tick; split <;> (try split) <;> rfl
@[simp] theorem tick_cause (s : State) : (tick s).cause = s.cause := by
  unfold tick; split <;> (try split) <;> rfl
@[simp] theorem tick_win (s : State) : (tick s).win = s.win := by
  unfold tick; split <;> (try split) <;> rfl
@[simp] theorem tick_wp (s : State) : (tick s).wp = s.wp := by
  unfold tick; split <;> (try split) <;> rfl
@[simp] theorem tick_fill (s : State) : (tick s).fill = s.fill := by
  unfold tick; split <;> (try split) <;> rfl
@[simp] theorem tick_sum (s : State) : (tick s).sum = s.sum := by
  unfold tick; split <;> (try split) <;> rfl
@[simp] theorem tick_dutyPend (s : State) : (tick s).dutyPend = s.dutyPend := by
  unfold tick; split <;> (try split) <;> rfl
@[simp] theorem tick_diagAvg (s : State) : (tick s).diagAvg = s.diagAvg := by
  unfold tick; split <;> (try split) <;> rfl
@[simp] theorem tick_diagClamped (s : State) : (tick s).diagClamped = s.diagClamped := by
  unfold tick; split <;> (try split) <;> rfl
@[simp] theorem tick_diagBright (s : State) : (tick s).diagBright = s.diagBright := by
  unfold tick; split <;> (try split) <;> rfl
@[simp] theorem tick_diagDuty (s : State) : (tick s).diagDuty = s.diagDuty := by
  unfold tick; split <;> (try split) <;> rfl
@[simp] theorem tick_rspOk (s : State) : (tick s).rspOk = s.rspOk := by
  unfold tick; split <;> (try split) <;> rfl
@[simp] theorem tick_rspData (s : State) : (tick s).rspData = s.rspData := by
  unfold tick; split <;> (try split) <;> rfl
@[simp] theorem tick_phase (s : State) : (tick s).phase = s.phase := by
  unfold tick; split <;> (try split) <;> rfl
@[simp] theorem tick_cmdIndex (s : State) : (tick s).cmdIndex = s.cmdIndex := by
  unfold tick; split <;> (try split) <;> rfl
@[simp] theorem tick_inputs (s : State) : (tick s).inputs = s.inputs := by
  unfold tick; split <;> (try split) <;> rfl

end Sys2Proof.Laws
end

