-- ==== Sys2Proof/Laws/Ops.lean ====
section
/-! SUPPORT. For each shared operation, once, everything it can do. -/

namespace Sys2Proof.Laws

open Sys2Proof.Machine

/-- Fault entry in an unfaulted block (60_exceptions.md R224). -/
theorem raiseFault_first (c : Cause) {s : State} (h : s.flt = false) :
    raiseFault c s =
      respond false ((causeCode c).setWidth 16) { s with flt := true, cause := causeCode c } := by
  simp [raiseFault, h]

/-- Fault entry in a faulted block keeps the first cause (60_exceptions.md R224). -/
theorem raiseFault_again (c : Cause) {s : State} (h : s.flt = true) :
    raiseFault c s = respond false (causeWord s) s := by
  simp [raiseFault, h]

/-- The command step's first test answers in one of two ways (60_exceptions.md R225). -/
theorem unlessFaulted_next {s t : State} {run : Result} (h : unlessFaulted s run = .next t) :
    (s.flt = true ∧ t = respond false (causeWord s) s) ∨ (s.flt = false ∧ run = .next t) := by
  unfold unlessFaulted at h
  split at h
  · next hf => exact .inl ⟨hf, by injection h with h; exact h.symm⟩
  · next hf => exact .inr ⟨by simpa using hf, h⟩

theorem unlessFaulted_of_faulted {s : State} (run : Result) (h : s.flt = true) :
    unlessFaulted s run = .next (respond false (causeWord s) s) := by
  simp [unlessFaulted, h]

theorem unlessFaulted_of_unfaulted {s : State} (run : Result) (h : s.flt = false) :
    unlessFaulted s run = run := by
  simp [unlessFaulted, h]

/-- A command that writes Win[WP] goes on exactly where there is such a slot. -/
theorem withSlot_next {s t : State} {run : Result} (h : withSlot s run = .next t) :
    s.wp.toNat < s.win.length ∧ run = .next t := by
  unfold withSlot at h
  split at h
  · next hs => exact ⟨by simpa [slotExists] using hs, h⟩
  · exact absurd h (by simp)

theorem withSlot_of_slot {s : State} (run : Result) (h : s.wp.toNat < s.win.length) :
    withSlot s run = run := by
  simp [withSlot, slotExists, h]

/-- The tick's three cases (43_pwm_driver.md R166). -/
theorem tick_cases (s : State) :
    (s.cfg = false ∧ tick s = s) ∨
    (s.cfg = true ∧ s.cnt = s.params.top ∧ tick s = { s with cnt := 0, dutyAct := s.dutyPend }) ∨
    (s.cfg = true ∧ s.cnt ≠ s.params.top ∧ tick s = { s with cnt := s.cnt + 1 }) := by
  unfold tick
  by_cases hc : s.cfg = true
  · by_cases ht : s.cnt = s.params.top
    · exact .inr (.inl ⟨hc, ht, by simp [hc, ht]⟩)
    · exact .inr (.inr ⟨hc, ht, by simp [hc, ht]⟩)
  · exact .inl ⟨by simpa using hc, by simp [hc]⟩

/-- A state after a next state. -/
theorem afterNext_next {r : Result} {f : State → State} {t : State} (h : afterNext r f = .next t) :
    ∃ u, r = .next u ∧ t = f u := by
  cases r with
  | next u => exact ⟨u, rfl, by simpa [afterNext] using h.symm⟩
  | fault x => simp [afterNext] at h
  | refused x => simp [afterNext] at h

@[simp] theorem afterNext_of_next (s : State) (f : State → State) :
    afterNext (.next s) f = .next (f s) := rfl

/-- The command step runs the decoded command or raises ILLEGAL_COMMAND (60_exceptions.md R225). -/
theorem commandStep_of_ok {w : CommandWord} {i : Instr} (s : State) (h : decode w = .ok i) :
    commandStep w s = exec i s := by
  simp [commandStep, h]

theorem commandStep_of_error {w : CommandWord} {e : Illegal} (s : State) (h : decode w = .error e) :
    commandStep w s = .next (raiseFault .illegalCommand s) := by
  simp [commandStep, h]

/-- What the command agent can do at an edge (10_state.md R39). -/
theorem commandEdge_next {e : Edge} {s t : State} (h : commandEdge e s = .next t) :
    (s.phase = .ready ∧ e.cmdValid = true ∧ t = acceptCommand e.cmdData s) ∨
    (s.phase = .ready ∧ e.cmdValid = false ∧ t = s) ∨
    (∃ w k, s.phase = .executing w (k + 1) ∧ t = { s with phase := .executing w k }) ∨
    (∃ w, s.phase = .executing w 0 ∧ commandStep w s = .next t) ∨
    (s.phase = .responding ∧ e.rspReady = true ∧ t = { s with phase := .ready }) ∨
    (s.phase = .responding ∧ e.rspReady = false ∧ t = s) := by
  unfold commandEdge at h
  split at h
  · next hp =>
    injection h with h
    cases hv : e.cmdValid
    · exact .inr (.inl ⟨hp, rfl, by simpa [hv] using h.symm⟩)
    · exact .inl ⟨hp, rfl, by simpa [hv] using h.symm⟩
  · next w hp => exact .inr (.inr (.inr (.inl ⟨w, hp, h⟩)))
  · next w k hp =>
    injection h with h
    exact .inr (.inr (.inl ⟨w, k, hp, h.symm⟩))
  · next hp =>
    injection h with h
    cases hv : e.rspReady
    · exact .inr (.inr (.inr (.inr (.inr ⟨hp, rfl, by simpa [hv] using h.symm⟩))))
    · exact .inr (.inr (.inr (.inr (.inl ⟨hp, rfl, by simpa [hv] using h.symm⟩))))

/-- What a clock edge can do: reset, or the two agents in one of the two orders. -/
theorem clockEdge_next {e : Edge} {s t : State} (h : clockEdge e s = .next t) :
    (e.rst = true ∧ t = resetBlock s) ∨
    (e.rst = false ∧ e.tickFirst = true ∧ commandEdge e (tickEdge e s) = .next t) ∨
    (e.rst = false ∧ e.tickFirst = false ∧ ∃ u, commandEdge e s = .next u ∧ t = tickEdge e u) := by
  unfold clockEdge at h
  split at h
  · next hr =>
    injection h with h
    exact .inl ⟨hr, h.symm⟩
  · next hr =>
    split at h
    · next ht => exact .inr (.inl ⟨by simpa using hr, ht, h⟩)
    · next ht => exact .inr (.inr ⟨by simpa using hr, by simpa using ht, afterNext_next h⟩)

/-- The clamped value lies in the clamp range (41_range_mapper.md R121). -/
theorem clampOp_toNat (p : Params) (x : U16) :
    (clampOp p x).toNat = min (max x.toNat p.minDist.toNat) p.maxDist.toNat := by
  have := p.maxDist.isLt
  simp only [clampOp, BitVec.toNat_ofNat]
  omega

/-- The brightness needs no truncation to 8 bits (41_range_mapper.md R122). -/
theorem mapOp_toNat (p : Params) (x : U16) :
    (mapOp p x).toNat = 255 - (((clampOp p x).toNat - p.minDist.toNat) * 255) /
      (p.maxDist.toNat - p.minDist.toNat) := by
  rw [mapOp, BitVec.toNat_ofNat]
  exact Nat.mod_eq_of_lt (Nat.lt_of_le_of_lt (Nat.sub_le _ _) (by decide))

end Sys2Proof.Laws
end

