-- ==== Sys2Proof/Laws/Exec.lean ====
section
/-! SUPPORT. What a command can do, said once: later proofs take cases on `Effect` and do not unfold
the meanings. -/

namespace Sys2Proof.Laws

open Sys2Proof.Machine

/-- The effects of a command that answers a next state (60_exceptions.md R225 and the commands'
rules): `Effect i s t` says that `i` takes `s` to `t`, and under which conditions. -/
inductive Effect : Instr → State → State → Prop where
  | ignored {i s} (hf : s.flt = true) (hr : ∀ index, i ≠ .read index) :
      Effect i s (respond false (causeWord s) s)
  | configured {s} (hf : s.flt = false) (hc : s.cfg = false) :
      Effect .configure s (respond true 0 { s with cfg := true, cnt := 0 })
  | reconfigure {s} (hf : s.flt = false) (hc : s.cfg = true) :
      Effect .configure s (raiseFault .reconfigure s)
  | dutySet {s channel duty} (hf : s.flt = false) (hc : s.cfg = true)
      (hch : channel.toNat < s.params.numCh) :
      Effect (.setDuty channel duty) s (respond true 0 (setDutyPend channel.toNat duty s))
  | badChannel {s channel duty} (hf : s.flt = false) (hc : s.cfg = true)
      (hch : s.params.numCh ≤ channel.toNat) :
      Effect (.setDuty channel duty) s (raiseFault .badChannel s)
  | setDutyUnconfigured {s channel duty} (hf : s.flt = false) (hc : s.cfg = false) :
      Effect (.setDuty channel duty) s (raiseFault .notConfigured s)
  | pushed {s raw} (hf : s.flt = false) (hw : s.wp.toNat < s.win.length) :
      Effect (.push raw) s (respond true 0 (pushOp raw s))
  | averaged {s} (hf : s.flt = false) : Effect .average s (respond true (avgOp s) s)
  | mapped {s smoothed} (hf : s.flt = false) :
      Effect (.map smoothed) s (respond true ((mapOp s.params smoothed).setWidth 16) s)
  | lookedUp {s index} (hf : s.flt = false) (hi : index.toNat ≤ 255) :
      Effect (.lookup index) s (respond true (lookupOp (gammaIndexOf index)) s)
  | gammaIndex {s index} (hf : s.flt = false) (hi : 255 < index.toNat) :
      Effect (.lookup index) s (raiseFault .gammaIndex s)
  | cycled {s raw} (hf : s.flt = false) (hc : s.cfg = true) (hw : s.wp.toNat < s.win.length) :
      Effect (.cycle raw) s (respond true (cycleDuty raw s) (cycleOp raw s))
  | cycleUnconfigured {s raw} (hf : s.flt = false) (hc : s.cfg = false) :
      Effect (.cycle raw) s (raiseFault .notConfigured s)
  | readDone {s index reg} (hr : regOfIndex s.params index = some reg) :
      Effect (.read index) s (respond true (regValue s reg) s)
  | readUnassigned {s index} (hr : regOfIndex s.params index = none) :
      Effect (.read index) s (raiseFault .illegalCommand s)

theorem execConfigure_effect {s t : State} (h : execConfigure s = .next t) :
    Effect .configure s t := by
  rcases unlessFaulted_next h with ⟨hf, rfl⟩ | ⟨hf, h⟩
  · exact .ignored hf (by simp)
  cases hc : s.cfg <;> simp only [hc, if_true, if_false, Bool.false_eq_true] at h <;>
    injection h with h <;> subst h
  · exact .configured hf hc
  · exact .reconfigure hf hc

theorem execSetDuty_effect {channel : U8} {duty : U16} {s t : State}
    (h : execSetDuty channel duty s = .next t) : Effect (.setDuty channel duty) s t := by
  rcases unlessFaulted_next h with ⟨hf, rfl⟩ | ⟨hf, h⟩
  · exact .ignored hf (by simp)
  cases hc : s.cfg <;> simp only [hc, if_true, if_false, Bool.false_eq_true] at h
  · injection h with h; subst h
    exact .setDutyUnconfigured hf hc
  · by_cases hch : channel.toNat < s.params.numCh <;>
      simp only [channelExists, hch, decide_true, decide_false, if_true, if_false,
        Bool.false_eq_true] at h <;> injection h with h <;> subst h
    · exact .dutySet hf hc hch
    · exact .badChannel hf hc (by omega)

theorem execPush_effect {raw : U16} {s t : State} (h : execPush raw s = .next t) :
    Effect (.push raw) s t := by
  rcases unlessFaulted_next h with ⟨hf, rfl⟩ | ⟨hf, h⟩
  · exact .ignored hf (by simp)
  obtain ⟨hw, h⟩ := withSlot_next h
  injection h with h; subst h
  exact .pushed hf hw

theorem execAverage_effect {s t : State} (h : execAverage s = .next t) : Effect .average s t := by
  rcases unlessFaulted_next h with ⟨hf, rfl⟩ | ⟨hf, h⟩
  · exact .ignored hf (by simp)
  injection h with h; subst h
  exact .averaged hf

theorem execMap_effect {smoothed : U16} {s t : State} (h : execMap smoothed s = .next t) :
    Effect (.map smoothed) s t := by
  rcases unlessFaulted_next h with ⟨hf, rfl⟩ | ⟨hf, h⟩
  · exact .ignored hf (by simp)
  injection h with h; subst h
  exact .mapped hf

theorem execLookup_effect {index : U16} {s t : State} (h : execLookup index s = .next t) :
    Effect (.lookup index) s t := by
  rcases unlessFaulted_next h with ⟨hf, rfl⟩ | ⟨hf, h⟩
  · exact .ignored hf (by simp)
  by_cases hi : index.toNat ≤ 255 <;>
    simp only [gammaIndexLegal, hi, decide_true, decide_false, if_true, if_false,
      Bool.false_eq_true] at h <;> injection h with h <;> subst h
  · exact .lookedUp hf hi
  · exact .gammaIndex hf (by omega)

theorem execCycle_effect {raw : U16} {s t : State} (h : execCycle raw s = .next t) :
    Effect (.cycle raw) s t := by
  rcases unlessFaulted_next h with ⟨hf, rfl⟩ | ⟨hf, h⟩
  · exact .ignored hf (by simp)
  cases hc : s.cfg <;> simp only [hc, if_true, if_false, Bool.false_eq_true] at h
  · injection h with h; subst h
    exact .cycleUnconfigured hf hc
  · obtain ⟨hw, h⟩ := withSlot_next h
    injection h with h; subst h
    exact .cycled hf hc hw

theorem execRead_effect {index : U8} {s t : State} (h : execRead index s = .next t) :
    Effect (.read index) s t := by
  unfold execRead at h
  split at h <;> injection h with h <;> subst h
  · next reg hr => exact .readDone hr
  · next hr => exact .readUnassigned hr

/-- Everything a command can do when it answers a next state. -/
theorem exec_effect {i : Instr} {s t : State} (h : exec i s = .next t) : Effect i s t := by
  cases i with
  | configure => exact execConfigure_effect h
  | setDuty channel duty => exact execSetDuty_effect h
  | push raw => exact execPush_effect h
  | average => exact execAverage_effect h
  | map smoothed => exact execMap_effect h
  | lookup index => exact execLookup_effect h
  | cycle raw => exact execCycle_effect h
  | read index => exact execRead_effect h

/-- The other way: an effect is what `exec` answers. -/
theorem exec_of_effect {i : Instr} {s t : State} (h : Effect i s t) : exec i s = .next t := by
  cases h with
  | ignored hf hr =>
    cases i with
    | read index => exact absurd rfl (hr index)
    | configure | setDuty | push | average | map | lookup | cycle =>
      exact unlessFaulted_of_faulted _ hf
  | configured hf hc =>
    rw [exec, execConfigure, unlessFaulted_of_unfaulted _ hf]; simp [hc]
  | reconfigure hf hc =>
    rw [exec, execConfigure, unlessFaulted_of_unfaulted _ hf]; simp [hc]
  | dutySet hf hc hch =>
    rw [exec, execSetDuty, unlessFaulted_of_unfaulted _ hf]; simp [hc, channelExists, hch]
  | badChannel hf hc hch =>
    rw [exec, execSetDuty, unlessFaulted_of_unfaulted _ hf]
    simp [hc, channelExists, Nat.not_lt.mpr hch]
  | setDutyUnconfigured hf hc =>
    rw [exec, execSetDuty, unlessFaulted_of_unfaulted _ hf]; simp [hc]
  | pushed hf hw =>
    rw [exec, execPush, unlessFaulted_of_unfaulted _ hf, withSlot_of_slot _ hw]
  | averaged hf => rw [exec, execAverage, unlessFaulted_of_unfaulted _ hf]
  | mapped hf => rw [exec, execMap, unlessFaulted_of_unfaulted _ hf]
  | lookedUp hf hi =>
    rw [exec, execLookup, unlessFaulted_of_unfaulted _ hf]; simp [gammaIndexLegal, hi]
  | gammaIndex hf hi =>
    rw [exec, execLookup, unlessFaulted_of_unfaulted _ hf]
    simp [gammaIndexLegal, Nat.not_le.mpr hi]
  | cycled hf hc hw =>
    rw [exec, execCycle, unlessFaulted_of_unfaulted _ hf]; simp [hc, withSlot_of_slot _ hw]
  | cycleUnconfigured hf hc =>
    rw [exec, execCycle, unlessFaulted_of_unfaulted _ hf]; simp [hc]
  | readDone hr => simp [exec, execRead, hr]
  | readUnassigned hr => simp [exec, execRead, hr]

/-- A command stops only where WP names no slot (assumption log 7). -/
theorem exec_goes_on (i : Instr) {s : State} (hw : s.wp.toNat < s.win.length) :
    ∃ t, exec i s = .next t := by
  by_cases hf : s.flt = true
  · cases i with
    | read index =>
      cases hr : regOfIndex s.params index
      · exact ⟨_, exec_of_effect (.readUnassigned hr)⟩
      · exact ⟨_, exec_of_effect (.readDone hr)⟩
    | configure | setDuty | push | average | map | lookup | cycle =>
      exact ⟨_, unlessFaulted_of_faulted _ hf⟩
  have hf : s.flt = false := by simpa using hf
  cases i with
  | configure =>
    cases hc : s.cfg
    · exact ⟨_, exec_of_effect (.configured hf hc)⟩
    · exact ⟨_, exec_of_effect (.reconfigure hf hc)⟩
  | setDuty channel duty =>
    cases hc : s.cfg
    · exact ⟨_, exec_of_effect (.setDutyUnconfigured hf hc)⟩
    · by_cases hch : channel.toNat < s.params.numCh
      · exact ⟨_, exec_of_effect (.dutySet hf hc hch)⟩
      · exact ⟨_, exec_of_effect (.badChannel hf hc (by omega))⟩
  | push raw => exact ⟨_, exec_of_effect (.pushed hf hw)⟩
  | average => exact ⟨_, exec_of_effect (.averaged hf)⟩
  | map smoothed => exact ⟨_, exec_of_effect (.mapped hf)⟩
  | lookup index =>
    by_cases hi : index.toNat ≤ 255
    · exact ⟨_, exec_of_effect (.lookedUp hf hi)⟩
    · exact ⟨_, exec_of_effect (.gammaIndex hf (by omega))⟩
  | cycle raw =>
    cases hc : s.cfg
    · exact ⟨_, exec_of_effect (.cycleUnconfigured hf hc)⟩
    · exact ⟨_, exec_of_effect (.cycled hf hc hw)⟩
  | read index =>
    cases hr : regOfIndex s.params index
    · exact ⟨_, exec_of_effect (.readUnassigned hr)⟩
    · exact ⟨_, exec_of_effect (.readDone hr)⟩

end Sys2Proof.Laws
end

