-- ==== Sys2Proof/Laws/PerInstr.lean ====
section
/-! SUPPORT. Per command: its word lies in its own row of 30_encoding.md R74, with the operands in
fields A and D. -/

namespace Sys2Proof.Laws.EncodesInRow

/-- The command's row of 30_encoding.md R74. -/
def rowOf : Instr → Row
  | .configure => rowConfigure
  | .setDuty _ _ => rowSetDuty
  | .push _ => rowPush
  | .average => rowAverage
  | .map _ => rowMap
  | .lookup _ => rowLookup
  | .cycle _ => rowCycle
  | .read _ => rowRead

/-- The row admits the command's word and makes the command of its fields. -/
def Statement (i : Instr) : Prop :=
  (rowOf i).admits (encode i) = true ∧
  (rowOf i).command (fieldA (encode i)) (fieldD (encode i)) = i

/-- A row whose pattern and mask are given field by field admits a word that matches it field by
field. -/
theorem admits_of_fields {r : Row} {op a op' a' op'' a'' : U8} {d d' d'' : U16}
    (hmask : r.mask = makeWord op' a' d') (hpat : r.pattern = makeWord op'' a'' d'')
    (ho : op &&& op' = op'') (ha : a &&& a' = a'') (hd : d &&& d' = d'') :
    r.admits (makeWord op a d) = true := by
  rw [Row.admits, hmask, makeWord_and, hpat, ho, ha, hd]
  simp

theorem configure : Statement .configure := ⟨by decide, rfl⟩

theorem setDuty (channel : U8) (duty : U16) : Statement (.setDuty channel duty) :=
  ⟨admits_of_fields (op' := 0xFF) (a' := 0) (d' := 0) (op'' := 2) (a'' := 0) (d'' := 0)
    rfl rfl (by decide) (by simp) (by simp), by simp [encode, rowOf, rowSetDuty]⟩

theorem push (raw : U16) : Statement (.push raw) :=
  ⟨admits_of_fields (op' := 0xFF) (a' := 0xFF) (d' := 0) (op'' := 3) (a'' := 0) (d'' := 0)
    rfl rfl (by decide) (by decide) (by simp), by simp [encode, rowOf, rowPush]⟩

theorem average : Statement .average := ⟨by decide, rfl⟩

theorem map (smoothed : U16) : Statement (.map smoothed) :=
  ⟨admits_of_fields (op' := 0xFF) (a' := 0xFF) (d' := 0) (op'' := 5) (a'' := 0) (d'' := 0)
    rfl rfl (by decide) (by decide) (by simp), by simp [encode, rowOf, rowMap]⟩

theorem lookup (index : U16) : Statement (.lookup index) :=
  ⟨admits_of_fields (op' := 0xFF) (a' := 0xFF) (d' := 0) (op'' := 6) (a'' := 0) (d'' := 0)
    rfl rfl (by decide) (by decide) (by simp), by simp [encode, rowOf, rowLookup]⟩

theorem cycle (raw : U16) : Statement (.cycle raw) :=
  ⟨admits_of_fields (op' := 0xFF) (a' := 0xFF) (d' := 0) (op'' := 7) (a'' := 0) (d'' := 0)
    rfl rfl (by decide) (by decide) (by simp), by simp [encode, rowOf, rowCycle]⟩

theorem read (index : U8) : Statement (.read index) :=
  ⟨admits_of_fields (op' := 0xFF) (a' := 0) (d' := 0xFFFF) (op'' := 8) (a'' := 0) (d'' := 0)
    rfl rfl (by decide) (by simp) (by simp), by simp [encode, rowOf, rowRead]⟩

end Sys2Proof.Laws.EncodesInRow
end

