-- ==== Sys2Proof/Laws/Run.lean ====
section
/-! SUPPORT. Runs of clock edges, one edge at a time, and what one clock edge can do. -/

namespace Sys2Proof.Laws

open Sys2Proof.Machine

@[simp] theorem run_zero (s : State) : Sys2Proof.core.run 0 s = .next s := rfl

theorem run_succ_of_next {s t : State} (k : Nat) (h : step s = .next t) :
    Sys2Proof.core.run (k + 1) s = Sys2Proof.core.run k t := by
  have h' : Sys2Proof.core.step s = .next t := h
  simp only [Host.Core.run, h']

theorem run_succ_next {s t : State} {k : Nat} (h : Sys2Proof.core.run (k + 1) s = .next t) :
    ∃ u, step s = .next u ∧ Sys2Proof.core.run k u = .next t := by
  cases hs : step s with
  | next u => exact ⟨u, rfl, by rw [← run_succ_of_next k hs]; exact h⟩
  | fault x =>
    have hs' : Sys2Proof.core.step s = .fault x := hs
    simp [Host.Core.run, hs'] at h
  | refused x =>
    have hs' : Sys2Proof.core.step s = .refused x := hs
    simp [Host.Core.run, hs'] at h

/-- A run of `j + k` edges is a run of `j` and then one of `k`. -/
theorem run_add_of_next {s t : State} (j k : Nat) (h : Sys2Proof.core.run j s = .next t) :
    Sys2Proof.core.run (j + k) s = Sys2Proof.core.run k t := by
  induction j generalizing s with
  | zero => rw [run_zero] at h; injection h with h; rw [h, Nat.zero_add]
  | succ j ih =>
    obtain ⟨u, hu, hrun⟩ := run_succ_next h
    rw [Nat.succ_add, run_succ_of_next _ hu]
    exact ih hrun

/-- The command step's effects: the decoded command's, or ILLEGAL_COMMAND's fault entry. -/
theorem commandStep_effect {w : CommandWord} {s t : State} (h : commandStep w s = .next t) :
    (∃ e, decode w = .error e ∧ t = raiseFault .illegalCommand s) ∨
    (∃ i, decode w = .ok i ∧ Effect i s t) := by
  cases hd : decode w with
  | error e =>
    rw [commandStep_of_error s hd] at h
    injection h with h
    exact .inl ⟨e, rfl, h.symm⟩
  | ok i =>
    rw [commandStep_of_ok s hd] at h
    exact .inr ⟨i, rfl, exec_effect h⟩

/-- A command step stops only where WP names no slot (assumption log 7). -/
theorem commandStep_goes_on (w : CommandWord) {s : State} (hw : s.wp.toNat < s.win.length) :
    ∃ t, commandStep w s = .next t := by
  cases hd : decode w with
  | error e => exact ⟨_, commandStep_of_error s hd⟩
  | ok i => rw [commandStep_of_ok s hd]; exact exec_goes_on i hw

/-- What a step can do: reset, or the command agent's part with at most one tick on one side of it. -/
theorem step_cases {s t : State} (h : step s = .next t) :
    ((nextEdge s).rst = true ∧ t = resetBlock (dropEdge s)) ∨
    ((nextEdge s).rst = false ∧ ∃ a b, (a = dropEdge s ∨ a = tick (dropEdge s)) ∧
      commandEdge (nextEdge s) a = .next b ∧ (t = b ∨ t = tick b)) := by
  rcases clockEdge_next h with ⟨hr, ht⟩ | ⟨hr, _, hc⟩ | ⟨hr, _, u, hc, ht⟩
  · exact .inl ⟨hr, ht⟩
  · refine .inr ⟨hr, _, t, ?_, hc, .inl rfl⟩
    unfold tickEdge
    split
    · exact .inr rfl
    · exact .inl rfl
  · refine .inr ⟨hr, _, u, .inl rfl, hc, ?_⟩
    rw [ht, tickEdge]
    split
    · exact .inr rfl
    · exact .inl rfl

end Sys2Proof.Laws
end

