-- ==== Sys2Proof/Tests/Slice0.lean ====
section
/-! SUPPORT. Tests on fixed values: expected results are those of spec/95_test_vectors.md or hand
calculations from the rule named. Then, per obligation with hypotheses, a witness that meets
them. -/

namespace Sys2Proof.Tests

open Sys2Proof.Machine

/-! ### The states the tests start from -/

/-- A small block: N = 3, TOP = 3, CMD_LATENCY = 2, otherwise the reference values. -/
def small : Params :=
  { n := 3, minDist := 100, maxDist := 240, top := 3, numCh := 2, outCh := 0, cmdLatency := 2,
    isLegal := by decide }

/-- The small block after reset. -/
def cold : State := State.resetFor small

/-- The small block, configured. -/
def running : State := { cold with cfg := true }

/-- The reference block, configured (P-C1 of L2.5). -/
def configured : State := { State.reset with cfg := true }

/-- The reference block after a fault with cause 2. -/
def faulted : State := { State.reset with flt := true, cause := 2 }

/-- The reference block, configured, with every slot `v` ("window steady at v", L2.7). -/
def steady (v : U16) : State :=
  { configured with
    win := List.replicate 10 v, fill := 10, sum := BitVec.ofNat 24 (10 * v.toNat) }

/-- What a test looks at in an outcome. -/
def shows (r : Result) (look : State → Bool) : Bool :=
  match r with
  | .next t => look t
  | .fault _ => false
  | .refused _ => false

/-- The outcome's response is (`ok`, `data`) and the rest of the state passes `look`. -/
def answers (r : Result) (ok : Bool) (data : U16) (look : State → Bool) : Bool :=
  shows r (fun t => t.rspOk == ok && t.rspData == data && look t)

/-- The clauses of `BlockInv`, one decidable proposition. -/
theorem inv_of_checks {s : State}
    (h : s.win.length = s.params.n ∧ s.wp.toNat < s.params.n ∧ s.fill.toNat ≤ s.params.n ∧
      s.sum.toNat = slotSum s.win ∧
      (s.fill.toNat < s.params.n → s.wp.toNat = s.fill.toNat ∧
        s.win.drop s.fill.toNat = List.replicate (s.params.n - s.fill.toNat) 0) ∧
      s.cnt.toNat ≤ s.params.top.toNat ∧ s.dutyPend.length = s.params.numCh ∧
      s.dutyAct.length = s.params.numCh ∧
      (s.cfg = false → s.cnt = 0 ∧ s.dutyPend = List.replicate s.params.numCh 0 ∧
        s.dutyAct = List.replicate s.params.numCh 0) ∧
      (s.flt = false ↔ s.cause = 0) ∧ s.cause.toNat ≤ 5 ∧
      waitOf s.phase < s.params.cmdLatency) : BlockInv s :=
  let ⟨a, b, c, d, e, f, g, i, j, k, l, m⟩ := h
  ⟨a, b, c, d, e, f, g, i, j, k, l, m⟩

/-! ### Well-formedness: each check refuses -/

theorem test_fit_channel : (Asm.setDuty 256 0).wellFormed = false := by decide
theorem test_fit_duty : (Asm.setDuty 0 65536).wellFormed = false := by decide
theorem test_fit_push : (Asm.push 65536).wellFormed = false := by decide
theorem test_fit_map : (Asm.map 65536).wellFormed = false := by decide
theorem test_fit_lookup : (Asm.lookup 65536).wellFormed = false := by decide
theorem test_fit_cycle : (Asm.cycle 65536).wellFormed = false := by decide
theorem test_fit_read : (Asm.read (.number 256)).wellFormed = false := by decide
theorem test_fit_setOut : (Asm.setOut 65536).wellFormed = false := by decide
theorem test_fit_warmup : (Asm.warmup 65536).wellFormed = false := by decide
theorem test_fit_ends : (Asm.setDuty 255 65535).wellFormed = true := by decide
theorem test_legal_channel : Instr.wellFormed Params.reference (.setDuty 2 0) = false := by decide
theorem test_legal_index : Instr.wellFormed Params.reference (.lookup 256) = false := by decide
theorem test_legal_register : Instr.wellFormed Params.reference (.read 0x0A) = false := by decide

/-! ### Words written out from 30_encoding.md, as in L2.1 -/

theorem test_word_configure : decode 0x01000000 = .ok .configure := rfl
theorem test_word_setDuty : decode 0x02FFFFFF = .ok (.setDuty 255 0xFFFF) := rfl
theorem test_word_setDuty_fields : decode 0x02018000 = .ok (.setDuty 1 0x8000) := rfl
theorem test_word_push : decode 0x03000064 = .ok (.push 100) := rfl
theorem test_word_average : decode 0x04000000 = .ok .average := rfl
theorem test_word_map : decode 0x050000AA = .ok (.map 170) := rfl
theorem test_word_lookup : decode 0x06000100 = .ok (.lookup 256) := rfl
theorem test_word_cycle : decode 0x070000AA = .ok (.cycle 170) := rfl
theorem test_word_read : decode 0x08150000 = .ok (.read 0x15) := rfl
theorem test_word_zero : decode 0x00000000 = .error .reservedOpcode := rfl
theorem test_word_opcode9 : decode 0x09000000 = .error .reservedOpcode := rfl
theorem test_word_opcodeFF : decode 0xFFFFFFFF = .error .reservedOpcode := rfl
theorem test_word_configure_d : decode 0x01000001 = .error .reservedField := rfl
theorem test_word_push_a : decode 0x03010064 = .error .reservedField := rfl
theorem test_word_read_d : decode 0x08000001 = .error .reservedField := rfl
theorem test_word_encoded : encode (.setDuty 7 1) = 0x02070001 := rfl
theorem test_table_word : decodeTableWord 32 0x08150000 = some (.read 0x15) := by decide
theorem test_fetch : answers (step (State.reset.withFetchWord 32 0x08150000)) true 0xCB01
    (fun t => rspValid t) = true := by decide

/-! ### One step each -/

/-- P-C1. -/
theorem test_configure : answers (exec .configure State.reset) true 0
    (fun t => t.cfg && t.cnt == 0) = true := by decide
/-- P-C2. -/
theorem test_configure_twice : answers (exec .configure configured) false 5
    (fun t => t.cfg && t.flt && t.cause == 5) = true := by decide
/-- P-S4. -/
theorem test_setDuty : answers (exec (.setDuty 1 0x4000) configured) true 0
    (fun t => t.dutyPend == [0, 0x4000] && t.dutyAct == [0, 0]) = true := by decide
/-- P-S2: NOT_CONFIGURED comes before BAD_CHANNEL. -/
theorem test_setDuty_priority : answers (exec (.setDuty 7 1) State.reset) false 2
    (fun t => t.flt && t.cause == 2) = true := by decide
/-- W2. -/
theorem test_push : answers (exec (.push 100) State.reset) true 0
    (fun t => t.win == 100 :: List.replicate 9 0 && t.wp == 1 && t.fill == 1 && t.sum == 100) =
    true := by decide
/-- W10, its last push: N = 3, slots 3, 4, 5 and WP = 0. -/
theorem test_push_evicts : answers
    (exec (.push 1000) { cold with win := [3, 4, 5], fill := 3, sum := 12 }) true 0
    (fun t => t.win == [1000, 4, 5] && t.wp == 1 && t.fill == 3 && t.sum == 1009) = true := by
  decide
/-- W10: 1009 / 3 = 336, truncated. -/
theorem test_average : answers
    (exec .average { cold with win := [1000, 4, 5], wp := 1, fill := 3, sum := 1009 }) true 336
    (fun t => t.diagAvg == 0) = true := by decide
/-- W5. -/
theorem test_average_full : answers (exec .average (steady 65535)) true 65535
    (fun t => t.sum == 655350) = true := by decide
/-- L2.3, s = 170 and s = 239. -/
theorem test_map : answers (exec (.map 170) State.reset) true 128 (fun t => !t.flt) = true := by
  decide
theorem test_map_far : answers (exec (.map 239) State.reset) true 2 (fun t => !t.flt) = true := by
  decide
/-- L2.4. -/
theorem test_lookup_last : answers (exec (.lookup 255) State.reset) true 0xFFFF
    (fun t => !t.flt) = true := by decide
theorem test_lookup_beyond : answers (exec (.lookup 256) State.reset) false 4
    (fun t => t.flt && t.cause == 4) = true := by decide
/-- Y1. -/
theorem test_cycle_unconfigured : answers (exec (.cycle 170) State.reset) false 2
    (fun t => t.fill == 0 && t.win == List.replicate 10 0 && t.diagAvg == 0) = true := by decide
/-- Y4: the clamp shows. -/
theorem test_cycle : answers (exec (.cycle 1023) (steady 1023)) true 0
    (fun t => t.diagAvg == 1023 && t.diagClamped == 240 && t.diagBright == 0 && t.diagDuty == 0 &&
      t.dutyPend == [0, 0]) = true := by decide
/-- L2.8, CFG_CH. -/
theorem test_read_channels : answers (exec (.read 0x14) State.reset) true 0x0020
    (fun t => !t.flt) = true := by decide
/-- L2.8: READ 0x16 after a fault with cause 2 keeps the first cause. -/
theorem test_read_faulted : answers (exec (.read 0x16) faulted) false 2
    (fun t => t.cause == 2) = true := by decide
/-- F4: an illegal READ word is ignored while faulted. -/
theorem test_illegal_ignored : answers (commandStep 0x08000001 faulted) false 2
    (fun t => t.cause == 2) = true := by decide
/-- F1. -/
theorem test_illegal : answers (commandStep 0x00000000 State.reset) false 1
    (fun t => faultOut t && t.cause == 1) = true := by decide
/-- T3. -/
theorem test_tick_wraps : (tick { configured with cnt := 0xFFFF, dutyPend := [0x8000, 0x4000] }).dutyAct
    = [0x8000, 0x4000] := by decide
/-- T4: the tick runs while faulted. -/
theorem test_tick_faulted : (tick { running with flt := true, cnt := 3, dutyPend := [2, 0] }).dutyAct
    = [2, 0] := by decide
/-- L2.6: TOP = 3, DUTY_ACT = 2 gives 1 1 0 0. -/
theorem test_wave : (List.range 4).map
    (fun k => pwmOut (ticks k { running with dutyAct := [2, 0] }) 0) =
    [true, true, false, false] := by decide
/-- R-2: reset at an edge ends a command in flight. -/
theorem test_reset_edge : shows (step { running with
    phase := .executing 0x03000064 0, inputs := [{ Edge.idle with rst := true }] })
    (fun t => t == cold) = true := by decide

/-! ### The assembler -/

theorem test_line : assembleLine Params.reference "SET_DUTY 0, 0x8000 ; half" =
    some [0x02008000] := by decide
theorem test_line_register : assembleLine Params.reference "READ DUTY_ACT1" =
    some [0x080D0000] := by decide
theorem test_line_blank : assembleLine Params.reference " ; nothing" = some [] := by decide
theorem test_line_pseudo : assembleLine small "WARMUP 170" =
    some [0x030000AA, 0x030000AA, 0x030000AA] := by decide
theorem test_line_too_large : assembleLine Params.reference "PUSH 65536" = none := by decide
theorem test_line_unknown : assembleLine Params.reference "HALT" = none := by decide

/-! ### Witnesses: for each obligation with hypotheses, states and operands that meet them all, per
clause and at the ends of its range -/

/-- The small block, configured and warm, its oldest sample in the last slot. -/
def warmed : State := { running with win := [5, 6, 4], wp := 2, fill := 3, sum := 15 }

/-- `s` with the word due at the coming edge. -/
def due (w : CommandWord) (s : State) : State := { s with phase := .executing w 0 }

/-- An edge that only ticks. -/
def tickEdgePins : Edge := { Edge.idle with pwmTick := true }

/-- An edge that only resets. -/
def resetEdgePins : Edge := { Edge.idle with rst := true }

theorem inv_reset : BlockInv State.reset := inv_of_checks (by decide)
theorem inv_cold : BlockInv cold := inv_of_checks (by decide)
theorem inv_running : BlockInv running := inv_of_checks (by decide)
theorem inv_configured : BlockInv configured := inv_of_checks (by decide)
theorem inv_warmed : BlockInv warmed := inv_of_checks (by decide)

theorem witness_PseudoInstructionsExpand :
    65535 ≤ 65535 ∧ BlockInv cold ∧ cold.params = small ∧ cold.flt = false :=
  ⟨by decide, inv_cold, rfl, rfl⟩

theorem witness_ConfigureConfiguresOnce :
    (cold.flt = false ∧ cold.cfg = false ∧ BlockInv cold) ∧
    (running.flt = false ∧ running.cfg = true) := ⟨⟨rfl, rfl, inv_cold⟩, rfl, rfl⟩

theorem witness_SetDutyWritesPendingDuty :
    (running.flt = false ∧ running.cfg = true ∧ (1 : U8).toNat < running.params.numCh) ∧
    (cold.flt = false ∧ cold.cfg = false) ∧
    (running.flt = false ∧ running.cfg = true ∧ running.params.numCh ≤ (2 : U8).toNat) := by decide

theorem witness_PushReplacesTheOldestSlot :
    (BlockInv cold ∧ cold.flt = false) ∧ (BlockInv warmed ∧ warmed.flt = false) :=
  ⟨⟨inv_cold, rfl⟩, inv_warmed, rfl⟩

theorem witness_AverageIsTheTruncatedMean : BlockInv warmed ∧ warmed.flt = false :=
  ⟨inv_warmed, rfl⟩

theorem witness_MapAnswersTheInvertedRange : warmed.flt = false := rfl

theorem witness_LookupAnswersTheEntry :
    warmed.flt = false ∧ (255 : U16).toNat ≤ 255 ∧ 255 < (256 : U16).toNat := by decide

theorem witness_CycleRunsTheWholePipeline :
    (BlockInv warmed ∧ warmed.flt = false ∧ warmed.cfg = true) ∧
    (BlockInv cold ∧ cold.flt = false ∧ cold.cfg = false) :=
  ⟨⟨inv_warmed, rfl, rfl⟩, inv_cold, rfl, rfl⟩

theorem witness_ReadAnswersTheIndexMap :
    1 < cold.params.numCh ∧ cold.dutyPend[1]? = some 0 ∧ cold.dutyAct[1]? = some 0 := by decide

theorem witness_AssignedIndicesExactly :
    (∀ r ∈ [0x00, 0x07, 0x08, 0x09, 0x0C, 0x0D, 0x10, 0x15],
      r ≤ 0x07 ∨ (0x08 ≤ r ∧ r < 0x08 + cold.params.numCh) ∨
      (0x0C ≤ r ∧ r < 0x0C + cold.params.numCh) ∨ (0x10 ≤ r ∧ r ≤ 0x15)) ∧
    (∀ r ∈ [0x0A, 0x0B, 0x0E, 0x0F, 0x16, 0xFF],
      ¬ (r ≤ 0x07 ∨ (0x08 ≤ r ∧ r < 0x08 + cold.params.numCh) ∨
      (0x0C ≤ r ∧ r < 0x0C + cold.params.numCh) ∨ (0x10 ≤ r ∧ r ≤ 0x15))) ∧
    cold.flt = false ∧ faulted.flt = true := by decide

theorem witness_MapIsExactInTwentyFourBits : 24 ≤ 24 ∧ 24 ≤ 25 := by decide

theorem witness_MapNeverIncreases : (100 : U16).toNat ≤ (240 : U16).toNat := by decide

theorem witness_MapEndsAndSaturation :
    (99 : U16).toNat < small.minDist.toNat ∧ small.maxDist.toNat < (241 : U16).toNat := by decide

theorem witness_LookupIsMonotoneWithFixedEnds :
    cold.flt = false ∧ (0 : U16).toNat ≤ (255 : U16).toNat ∧ (255 : U16).toNat ≤ 255 := by decide

/-- W9 and W10 with other commands and a tick between. -/
def pushes : List Action :=
  [.command 0x03000003, .command 0x04000000, .command 0x03000004, .tick, .command 0x050000AA,
   .command 0x03000005, .command 0x030003E8]

theorem witness_WindowHoldsTheLastSamples :
    BlockInv cold ∧ Action.reset ∉ pushes ∧
    (∃ t, runActions pushes cold = .next t ∧ t.flt = false) ∧
    cold.params.n ≤ (samplesIn pushes).length :=
  ⟨inv_cold, by decide, ⟨_, rfl, by decide⟩, by decide⟩

theorem witness_RepeatedSampleIsItsAverage :
    BlockInv cold ∧ cold.flt = false ∧ cold.params.n ≤ 3 := ⟨inv_cold, rfl, by decide⟩

theorem witness_AverageIgnoresSlotOrder :
    BlockInv warmed ∧ BlockInv { warmed with win := [4, 5, 6] } ∧ warmed.flt = false ∧
    warmed.win.Perm [4, 5, 6] :=
  ⟨inv_warmed, inv_of_checks (by decide), rfl, by decide⟩

theorem witness_FillCountsSamplesUpToN :
    (Action.reset ∉ pushes ∧
      ∃ t, runActions pushes (State.resetFor small) = .next t ∧ t.flt = false) ∧
    (let s := due 0x03000009 { cold with win := [5, 6, 0], wp := 2, fill := 2, sum := 11 };
      BlockInv s ∧ warm s = false ∧ ∃ t, step s = .next t ∧ warm t = true) ∧
    (let s := { warmed with inputs := [resetEdgePins] };
      BlockInv s ∧ warm s = true ∧ ∃ t, step s = .next t ∧ warm t = false) :=
  ⟨⟨by decide, _, rfl, by decide⟩, ⟨inv_of_checks (by decide), by decide, _, rfl, by decide⟩,
    inv_of_checks (by decide), by decide, _, rfl, by decide⟩

theorem witness_CycleEqualsItsSequence :
    (BlockInv warmed ∧ warmed.flt = false ∧ warmed.cfg = true) ∧
    (BlockInv cold ∧ cold.flt = false ∧ cold.cfg = false) := witness_CycleRunsTheWholePipeline

theorem witness_SteadyStateOfThePipeline (v : U16) (hv : v = 100 ∨ v = 240 ∨ v = 170) :
    let actions := List.replicate 10 (Action.command (encode (.push v)))
    BlockInv configured ∧ Action.reset ∉ actions ∧
    (∃ t, runActions actions configured = .next t ∧ t.flt = false ∧ t.cfg = true) ∧
    configured.params.n ≤ (samplesIn actions).length ∧
    lastOf configured.params.n (samplesIn actions) = List.replicate configured.params.n v ∧
    configured.params = Params.reference := by
  rcases hv with rfl | rfl | rfl <;>
    exact ⟨inv_configured, by decide, ⟨_, rfl, rfl, rfl⟩, by decide, by decide, rfl⟩

theorem witness_NearerIsNeverDimmer :
    BlockInv warmed ∧ BlockInv running ∧ warmed.params = running.params ∧ warmed.flt = false ∧
    running.flt = false ∧ warmed.cfg = true ∧ running.cfg = true ∧
    ∃ a b, exec (.cycle 100) running = .next a ∧ exec (.cycle 240) warmed = .next b ∧
      a.diagAvg.toNat ≤ b.diagAvg.toNat :=
  ⟨inv_warmed, inv_running, rfl, rfl, rfl, rfl, rfl, _, _, rfl, rfl, by decide⟩

theorem witness_FaultEntryKeepsTheFirstCause : cold.flt = false ∧ faulted.flt = true := by decide

theorem witness_CommandStepTestsFltFirst :
    (faulted.flt = true ∧ decode 0x08010000 = .ok (.read 1) ∧
      ∀ index, decode 0x03000064 ≠ .ok (.read index)) ∧
    (cold.flt = false ∧ decode 0x09000000 = .error .reservedOpcode ∧
      decode 0x03000064 = .ok (.push 100)) :=
  ⟨⟨rfl, rfl, fun _ h => by injection h with h; exact Instr.noConfusion h⟩, rfl, rfl, rfl⟩

theorem witness_EachCauseExactlyOnItsCondition :
    cold.flt = false ∧ running.flt = false ∧
    (∃ t, commandStep 0x080A0000 cold = .next t ∧ t.flt = true ∧ t.cause = 1) ∧
    (∃ t, commandStep 0x070000AA cold = .next t ∧ t.flt = true ∧ t.cause = 2) ∧
    (∃ t, commandStep 0x02020005 running = .next t ∧ t.flt = true ∧ t.cause = 3) ∧
    (∃ t, commandStep 0x06000100 cold = .next t ∧ t.flt = true ∧ t.cause = 4) ∧
    (∃ t, commandStep 0x01000000 running = .next t ∧ t.flt = true ∧ t.cause = 5) :=
  ⟨rfl, rfl, ⟨_, rfl, rfl, rfl⟩, ⟨_, rfl, rfl, rfl⟩, ⟨_, rfl, rfl, rfl⟩, ⟨_, rfl, rfl, rfl⟩,
    _, rfl, rfl, rfl⟩

theorem witness_FaultHaltsCommandsNotTheCounter :
    faulted.flt = true ∧ ∃ t, commandStep 0x03000064 faulted = .next t := ⟨rfl, _, rfl⟩

theorem witness_OnlyResetClearsAFault :
    (faulted.flt = true ∧ (nextEdge faulted).rst = false ∧ ∃ t, step faulted = .next t) ∧
    (let s := { faulted with inputs := [resetEdgePins] };
      s.flt = true ∧ (nextEdge s).rst = true ∧ ∃ t, step s = .next t) :=
  ⟨⟨rfl, rfl, _, rfl⟩, rfl, rfl, _, rfl⟩

theorem witness_EveryCommandAnswersOnce :
    (∃ t, commandStep 0x03000064 cold = .next t ∧ t.rspOk = true) ∧
    (∃ t, commandStep 0x06000100 cold = .next t ∧ t.rspOk = false) :=
  ⟨⟨_, rfl, rfl⟩, _, rfl, rfl⟩

theorem witness_TickCountsAndWraps :
    (cold.cnt.toNat ≤ cold.params.top.toNat ∧ cold.cfg = false) ∧
    (let s := { running with cnt := 3 };
      s.cnt.toNat ≤ s.params.top.toNat ∧ s.cfg = true ∧ s.cnt = s.params.top) ∧
    (let s := { running with cnt := 2 };
      s.cnt.toNat ≤ s.params.top.toNat ∧ s.cfg = true ∧ s.cnt ≠ s.params.top) ∧
    (let s := { running with phase := .responding, inputs := [tickEdgePins] };
      s.cnt.toNat ≤ s.params.top.toNat ∧ (nextEdge s).rst = false ∧ (nextEdge s).pwmTick = true ∧
      s.phase = .responding ∧ (nextEdge s).rspReady = false) := by decide

theorem witness_EveryTickEdgeIsOneTick :
    ∀ pins ∈ [tickEdgePins, { tickEdgePins with tickFirst := true }],
      (nextEdge { due 0x03000064 cold with inputs := [pins] }).rst = false ∧
      (nextEdge { due 0x03000064 cold with inputs := [pins] }).pwmTick = true := by decide

theorem witness_WaveformOfOnePeriod :
    (let s := { running with dutyAct := [2, 0] };
      BlockInv s ∧ s.cfg = true ∧ s.cnt = 0 ∧ 2 < s.params.top.toNat + 1) ∧
    (BlockInv running ∧ running.cfg = true ∧ running.cnt = 0 ∧
      (dutyActAt running running.params.outCh).toNat = 0) ∧
    (let s := { running with dutyAct := [4, 0] };
      BlockInv s ∧ s.cfg = true ∧ s.cnt = 0 ∧
      s.params.top.toNat < (dutyActAt s s.params.outCh).toNat) ∧
    (let s := { configured with dutyAct := [65535, 0] };
      BlockInv s ∧ s.cfg = true ∧ s.cnt = 0 ∧ s.params.top = 0xFFFF ∧
      (dutyActAt s s.params.outCh).toNat = 65535) :=
  ⟨⟨inv_of_checks (by decide), by decide⟩, ⟨inv_running, by decide⟩,
    ⟨inv_of_checks (by decide), by decide⟩, inv_of_checks (by decide), by decide⟩

theorem witness_OutputSignals : running.dutyAct[0]? = some 0 ∧ running.dutyAct[1]? = some 0 ∧
    1 ≠ running.params.outCh := by decide

theorem witness_NewDutyWaitsForTheWrap :
    BlockInv running ∧ running.cfg = true ∧ 1 < running.params.numCh ∧
    0 < running.params.numCh ∧ 0 = running.params.outCh ∧
    (∃ t, exec (.setDuty (BitVec.ofNat 8 1) 9) running = .next t ∧ t.flt = false) ∧
    (∃ t, exec (.cycle 100) running = .next t ∧ t.flt = false ∧ t.rspData = 65535) :=
  ⟨inv_running, rfl, by decide, by decide, rfl, ⟨_, rfl, rfl⟩, _, rfl, rfl, by decide⟩

theorem witness_LastDutyBeforeTheWrapWins :
    BlockInv running ∧ running.flt = false ∧ running.cfg = true ∧
    (1 : U8).toNat < running.params.numCh ∧
    3 < running.params.top.toNat - running.cnt.toNat + 1 := ⟨inv_running, by decide⟩

/-- The small block's first period, with a duty set in it. -/
def firstPeriod : List Action := [.tick, .command 0x02000004, .tick, .tick]

theorem witness_FirstPeriodIsDark :
    BlockInv cold ∧ cold.flt = false ∧ cold.cfg = false ∧
    (∃ a t, exec .configure cold = .next a ∧ runActions firstPeriod a = .next t) ∧
    Action.reset ∉ firstPeriod ∧ tickCount firstPeriod = cold.params.top.toNat :=
  ⟨inv_cold, rfl, rfl, ⟨_, _, rfl, rfl⟩, by decide, by decide⟩

theorem witness_ResetRestoresEveryElement :
    (nextEdge { warmed with inputs := [resetEdgePins] }).rst = true := rfl

theorem witness_QuietAfterReset :
    ∀ e ∈ [tickEdgePins, Edge.idle], e.rst = false ∧ e.cmdValid = false := by decide

/-- The reference parameters with another N and OUT_CH. -/
def rawWith (n outCh : Nat) : RawParams := { RawParams.reference with n := n, outCh := outCh }

theorem witness_IllegalConfigurationIsRefused :
    (rawWith 255 1).legal = true ∧ (rawWith 1 0).legal = true ∧ (rawWith 256 0).legal = false ∧
    (rawWith 0 0).legal = false ∧ (rawWith 10 2).legal = false := by decide

theorem witness_ConfigurationNeverChanges :
    (∃ t, step State.reset = .next t) ∧ (∃ t, exec (.setDuty 1 9) running = .next t) ∧
    (∃ t, exec (.cycle 100) running = .next t) := ⟨⟨_, rfl⟩, ⟨_, rfl⟩, _, rfl⟩

theorem witness_ConfiguredOnlyByConfigure :
    (let s := due 0x01000000 cold;
      s.cfg = false ∧ ∃ t, step s = .next t ∧ t.cfg = true) ∧
    (let s := { running with inputs := [resetEdgePins] };
      s.cfg = true ∧ ∃ t, step s = .next t ∧ t.cfg = false) ∧
    (cold.flt = false ∧ cold.cfg = false) :=
  ⟨⟨rfl, _, rfl, rfl⟩, ⟨rfl, _, rfl, rfl⟩, rfl, rfl⟩

theorem witness_DiagWrittenOnlyByCycle :
    ∃ t, commandStep 0x07000064 running = .next t ∧
      (t.diagAvg, t.diagClamped, t.diagBright, t.diagDuty) ≠
        (running.diagAvg, running.diagClamped, running.diagBright, running.diagDuty) :=
  ⟨_, rfl, by decide⟩

theorem witness_DutyRegistersWrittenOnlyByTheirOwners :
    (∃ t, commandStep 0x02014000 running = .next t ∧ dutyPendAt t 1 ≠ dutyPendAt running 1) ∧
    (∃ t, commandStep 0x07000064 running = .next t ∧ dutyPendAt t 0 ≠ dutyPendAt running 0) ∧
    (let s := { running with cnt := 3, dutyPend := [7, 8] };
      (tick s).dutyAct ≠ s.dutyAct) :=
  ⟨⟨_, rfl, by decide⟩, ⟨_, rfl, by decide⟩, by decide⟩

/-- The last clause's change of CNT needs a CNT that is not 0 while CFG = 0, which no run reaches. -/
theorem witness_WindowAndCounterWrittenOnlyByTheirOwners :
    (∃ t, commandStep 0x03000064 cold = .next t ∧
      (t.win, t.wp, t.fill, t.sum) ≠ (cold.win, cold.wp, cold.fill, cold.sum)) ∧
    (∃ t, commandStep 0x01000000 { cold with cnt := 2 } = .next t ∧ t.cnt ≠ 2) :=
  ⟨⟨_, rfl, by decide⟩, _, rfl, by decide⟩

theorem witness_ReadOnlyCommandsAndIdempotence :
    (∃ t, exec .average cold = .next t ∧ t.rspOk = true) ∧
    (∃ t, exec (.map 170) cold = .next t ∧ t.rspOk = true) ∧
    (∃ t, exec (.lookup 255) cold = .next t ∧ t.rspOk = true) ∧
    (∃ t, exec (.read 0x15) cold = .next t ∧ t.rspOk = true) ∧
    (∃ t, exec (.setDuty 1 9) running = .next t ∧ t.rspOk = true) ∧
    (∃ t, exec .configure cold = .next t ∧ t.rspOk = true) :=
  ⟨⟨_, rfl, rfl⟩, ⟨_, rfl, rfl⟩, ⟨_, rfl, rfl⟩, ⟨_, rfl, rfl⟩, ⟨_, rfl, rfl⟩, _, rfl, rfl⟩

theorem witness_StepRunsTheDecodedCommand :
    decode 0x03000064 = .ok (.push 100) ∧
    ∀ pins ∈ [Edge.idle, tickEdgePins, { tickEdgePins with tickFirst := true }],
      (nextEdge { due 0x03000064 cold with inputs := [pins] }).rst = false ∧
      (due 0x03000064 cold).phase = .executing 0x03000064 0 := ⟨rfl, by decide⟩

/-- An edge at which the host offers CONFIGURE. -/
def offer : Edge := { Edge.idle with cmdValid := true, cmdData := 0x01000000 }

theorem witness_HandshakeOfTheCommandPort :
    (∀ pins ∈ [Edge.idle, offer, { Edge.idle with rspReady := true }],
      (nextEdge { cold with inputs := [pins] }).rst = false ∧
      (nextEdge { cold with inputs := [pins] }).pwmTick = false) ∧
    cmdReady cold = true ∧ offer.cmdValid = true ∧
    rspValid { cold with phase := .responding } = true ∧
    ({ cold with phase := .executing 0x01000000 1 } : State).phase = .executing 0x01000000 (0 + 1) := by
  decide

theorem witness_CommandCompletesAfterItsLatency :
    let es := [Edge.idle, Edge.idle]
    let s := { cold with inputs := offer :: es ++ [] }
    BlockInv s ∧ s.phase = .ready ∧ offer.cmdValid = true ∧ es.length = s.params.cmdLatency ∧
    ∀ e ∈ offer :: es, e.rst = false ∧ e.pwmTick = false :=
  ⟨inv_of_checks (by decide), rfl, rfl, rfl, by decide⟩

theorem witness_ClockEdgesRefineTransactions :
    ∃ t, Sys2Proof.core.run 4 { cold with inputs := [offer, tickEdgePins, tickEdgePins] } =
      .next t ∧ t.cfg = true := ⟨_, rfl, rfl⟩

theorem witness_EveryInterleavingHasItsEdges :
    cold.phase = .ready ∧
    ∃ t, runActions [.command 0x01000000, .tick, .reset, .command 0x03000064] cold = .next t :=
  ⟨rfl, _, rfl⟩

theorem witness_StepKeepsTheInvariant : BlockInv State.reset := inv_reset

theorem witness_StepKeepsDiagConsistent :
    (DiagConsistent State.reset ∧ ∃ t, step State.reset = .next t) ∧
    (let s := { steady 240 with diagAvg := 240, diagClamped := 240 };
      DiagConsistent s ∧ ∃ t, step s = .next t) :=
  ⟨⟨.inl (by decide), _, rfl⟩, .inr (by decide), _, rfl⟩

end Sys2Proof.Tests
end

section
/-! PROOFS. 10_state.md: the output signals (R38), and FILL with WARM (R28). -/

namespace Sys2Proof.Proofs

open Sys2Proof.Machine Sys2Proof.Laws

/-! ### The output pins -/

/-- DUTY_ACT of a channel the block has is that entry of the list. -/
theorem dutyActAt_of_getElem? {s : State} {ch : Nat} {duty : U16}
    (h : s.dutyAct[ch]? = some duty) : dutyActAt s ch = duty := by
  simp [dutyActAt, List.getD_eq_getElem?_getD, h]

theorem pwmOut_iff (s : State) (ch : Nat) :
    pwmOut s ch = true ↔
      s.cfg = true ∧ ch = s.params.outCh ∧ s.cnt.toNat < (dutyActAt s ch).toNat := by
  simp [pwmOut, and_assoc]

/-- Settles O37: the pin is the conjunction of R38's three conditions, and a channel other than
OUT_CH misses the second. -/
theorem outputSignals : Obligations.OutputSignals := by
  intro s ch duty hduty
  have hpin := pwmOut_iff s ch
  rw [dutyActAt_of_getElem? hduty] at hpin
  refine ⟨hpin, fun hne => ?_, rfl⟩
  rw [← Bool.not_eq_true, hpin]
  exact fun ⟨_, hout, _⟩ => hne hout

/-! ### What a command keeps, and what it does to FILL -/

theorem effect_params {i : Instr} {s t : State} (h : Effect i s t) : t.params = s.params := by
  cases h <;> simp

/-- No command clears FLT (60_exceptions.md R229). -/
theorem effect_unfaulted {i : Instr} {s t : State} (h : Effect i s t) (ht : t.flt = false) :
    s.flt = false := by
  cases h with
  | ignored | readDone => simpa using ht
  | readUnassigned => simp at ht
  | configured hf | reconfigure hf | dutySet hf | badChannel hf | setDutyUnconfigured hf
  | pushed hf | averaged hf | mapped hf | lookedUp hf | gammaIndex hf | cycled hf
  | cycleUnconfigured hf => exact hf

/-- FILL after one more sample (40_sample_window.md R101). -/
def fillAfterPush (s : State) : U8 := BitVec.ofNat 8 (min (s.fill.toNat + 1) s.params.n)

/-- N is at most 255, so the count needs no truncation to 8 bits. -/
theorem fillAfterPush_toNat (s : State) :
    (fillAfterPush s).toNat = min (s.fill.toNat + 1) s.params.n := by
  have := n_le s.params
  rw [fillAfterPush, BitVec.toNat_ofNat]
  omega

/-- A command leaves FILL as it is, and then inserts no sample unless it ends faulted, or it is a
PUSH or a CYCLE and counts one sample. -/
theorem effect_fill_cases {i : Instr} {s t : State} (h : Effect i s t) :
    (t.fill = s.fill ∧ (t.flt = false → samplesOf [i] = [])) ∨
    (t.fill = fillAfterPush s ∧ ∃ raw, i = .push raw ∨ i = .cycle raw) := by
  cases h with
  | pushed => exact .inr ⟨rfl, _, .inl rfl⟩
  | cycled => exact .inr ⟨rfl, _, .inr rfl⟩
  | ignored hf => exact .inl ⟨rfl, fun ht => by simp [hf] at ht⟩
  | cycleUnconfigured => exact .inl ⟨by simp, fun ht => by simp at ht⟩
  | configured | reconfigure | dutySet | badChannel | setDutyUnconfigured | averaged | mapped
  | lookedUp | gammaIndex | readDone | readUnassigned => exact .inl ⟨by simp, fun _ => rfl⟩

/-- PUSH and CYCLE insert exactly their operand. -/
theorem samplesOf_push_or_cycle {i : Instr} {raw : U16} (h : i = .push raw ∨ i = .cycle raw) :
    samplesOf [i] = [raw] := by
  rcases h with rfl | rfl <;> rfl

/-- An unfaulted command adds its samples to FILL, up to N. -/
theorem effect_fill_toNat {i : Instr} {s t : State} (h : Effect i s t) (ht : t.flt = false)
    (hs : s.fill.toNat ≤ s.params.n) :
    t.fill.toNat = min (s.fill.toNat + (samplesOf [i]).length) s.params.n := by
  rcases effect_fill_cases h with ⟨hfill, hnone⟩ | ⟨hfill, raw, hi⟩
  · rw [hfill, hnone ht, List.length_nil]
    omega
  · rw [hfill, fillAfterPush_toNat, samplesOf_push_or_cycle hi, List.length_singleton]

/-! ### Runs of actions -/

theorem samplesIn_cons (a : Action) (rest : List Action) :
    samplesIn (a :: rest) = samplesIn [a] ++ samplesIn rest := by
  cases a <;> simp [samplesIn]

theorem samplesIn_command_of_ok {w : CommandWord} {i : Instr} (h : decode w = .ok i) :
    samplesIn [.command w] = samplesOf [i] := by
  simp [samplesIn, h]

theorem runActions_cons_next {a : Action} {rest : List Action} {s t : State}
    (h : runActions (a :: rest) s = .next t) :
    ∃ u, act a s = .next u ∧ runActions rest u = .next t := by
  rw [runActions] at h
  cases ha : act a s with
  | next u => exact ⟨u, rfl, by simpa [ha] using h⟩
  | fault x => simp [ha] at h
  | refused x => simp [ha] at h

/-- What an action other than reset does when it ends unfaulted: a tick, or a decoded command. -/
theorem act_unfaulted_cases {a : Action} {s t : State} (h : act a s = .next t) (ha : a ≠ .reset)
    (ht : t.flt = false) :
    (a = .tick ∧ t = tick s) ∨
    (∃ w i, a = .command w ∧ decode w = .ok i ∧ Effect i s t) := by
  cases a with
  | reset => exact absurd rfl ha
  | tick => injection h with h; exact .inl ⟨rfl, h.symm⟩
  | command w =>
    rcases commandStep_effect h with ⟨_, _, rfl⟩ | ⟨i, hd, he⟩
    · simp at ht
    · exact .inr ⟨w, i, rfl, hd, he⟩

theorem act_unfaulted {a : Action} {s t : State} (h : act a s = .next t) (ha : a ≠ .reset)
    (ht : t.flt = false) : s.flt = false := by
  rcases act_unfaulted_cases h ha ht with ⟨_, rfl⟩ | ⟨_, _, _, _, he⟩
  · simpa using ht
  · exact effect_unfaulted he ht

theorem act_params {a : Action} {s t : State} (h : act a s = .next t) (ha : a ≠ .reset)
    (ht : t.flt = false) : t.params = s.params := by
  rcases act_unfaulted_cases h ha ht with ⟨_, rfl⟩ | ⟨_, _, _, _, he⟩
  · exact tick_params s
  · exact effect_params he

/-- An unfaulted action other than reset adds its samples to FILL, up to N. -/
theorem act_fill_toNat {a : Action} {s t : State} (h : act a s = .next t) (ha : a ≠ .reset)
    (ht : t.flt = false) (hs : s.fill.toNat ≤ s.params.n) :
    t.fill.toNat = min (s.fill.toNat + (samplesIn [a]).length) s.params.n := by
  rcases act_unfaulted_cases h ha ht with ⟨rfl, rfl⟩ | ⟨w, i, rfl, hd, he⟩
  · simpa [samplesIn] using hs
  · rw [samplesIn_command_of_ok hd]
    exact effect_fill_toNat he ht hs

/-- Without reset FLT is not cleared (60_exceptions.md R229). -/
theorem runActions_unfaulted {actions : List Action} {s t : State} (hreset : .reset ∉ actions)
    (h : runActions actions s = .next t) (ht : t.flt = false) : s.flt = false := by
  induction actions generalizing s with
  | nil => injection h with h; rwa [h]
  | cons a rest ih =>
    obtain ⟨u, hact, hrest⟩ := runActions_cons_next h
    obtain ⟨ha, hreset⟩ := List.ne_and_not_mem_of_not_mem_cons hreset
    exact act_unfaulted hact ha.symm (ih hreset hrest)

/-- A run without reset that ends unfaulted keeps the parameters and adds its samples to FILL, up
to N. -/
theorem runActions_fill_toNat {actions : List Action} {s t : State} (hreset : .reset ∉ actions)
    (h : runActions actions s = .next t) (ht : t.flt = false) (hs : s.fill.toNat ≤ s.params.n) :
    t.params = s.params ∧
    t.fill.toNat = min (s.fill.toNat + (samplesIn actions).length) s.params.n := by
  induction actions generalizing s with
  | nil =>
    injection h with h; subst h
    exact ⟨rfl, by simpa [samplesIn] using hs⟩
  | cons a rest ih =>
    obtain ⟨u, hact, hrest⟩ := runActions_cons_next h
    obtain ⟨ha, hreset⟩ := List.ne_and_not_mem_of_not_mem_cons hreset
    have hu : u.flt = false := runActions_unfaulted hreset hrest ht
    have hparams : u.params = s.params := act_params hact ha.symm hu
    have hfill := act_fill_toNat hact ha.symm hu hs
    obtain ⟨htparams, htfill⟩ := ih hreset hrest (by rw [hparams]; omega)
    rw [hparams] at htparams htfill
    refine ⟨htparams, ?_⟩
    rw [htfill, hfill, samplesIn_cons a rest, List.length_append]
    omega

/-! ### WARM at a clock edge -/

theorem warm_iff (s : State) : warm s = true ↔ s.fill.toNat = s.params.n := by
  simp [warm]

theorem warm_congr {s t : State} (hparams : t.params = s.params) (hfill : t.fill = s.fill) :
    warm t = warm s := by
  rw [warm, warm, hparams, hfill]

/-- A reset block is cold: N is at least 1. -/
theorem warm_resetBlock (s : State) : warm (resetBlock s) = false := by
  have := n_pos s.params
  rw [← Bool.not_eq_true, warm_iff]
  simp only [resetBlock_fill, resetBlock_params, BitVec.ofNat_eq_ofNat, BitVec.toNat_ofNat]
  omega

/-- Counting a sample leaves a full window full. -/
theorem warm_of_fillAfterPush {s t : State} (hparams : t.params = s.params)
    (hfill : t.fill = fillAfterPush s) (hs : warm s = true) : warm t = true := by
  rw [warm_iff] at hs ⊢
  rw [hfill, fillAfterPush_toNat, hparams]
  omega

/-- `t` has the parameters of `s` and either its FILL, or one sample more by a PUSH or CYCLE that
commits at this edge. -/
def FillMovesOnlyByPush (s t : State) : Prop :=
  t.params = s.params ∧
  (t.fill = s.fill ∨
    (t.fill = fillAfterPush s ∧ ∃ w raw, s.phase = .executing w 0 ∧
      (decode w = .ok (.push raw) ∨ decode w = .ok (.cycle raw))))

theorem commandStep_movesFill {w : CommandWord} {s t : State} (h : commandStep w s = .next t)
    (hw : s.phase = .executing w 0) : FillMovesOnlyByPush s t := by
  rcases commandStep_effect h with ⟨_, _, rfl⟩ | ⟨i, hd, he⟩
  · exact ⟨raiseFault_params _ s, .inl (raiseFault_fill _ s)⟩
  · refine ⟨effect_params he, ?_⟩
    rcases effect_fill_cases he with ⟨hfill, _⟩ | ⟨hfill, raw, hi⟩
    · exact .inl hfill
    · exact .inr ⟨hfill, w, raw, hw, by rwa [hd, Except.ok.injEq, Except.ok.injEq]⟩

theorem commandEdge_movesFill {e : Edge} {s t : State} (h : commandEdge e s = .next t) :
    FillMovesOnlyByPush s t := by
  rcases commandEdge_next h with ⟨_, _, rfl⟩ | ⟨_, _, rfl⟩ | ⟨_, _, _, rfl⟩ | ⟨w, hw, hstep⟩ |
    ⟨_, _, rfl⟩ | ⟨_, _, rfl⟩
  · exact ⟨rfl, .inl rfl⟩
  · exact ⟨rfl, .inl rfl⟩
  · exact ⟨rfl, .inl rfl⟩
  · exact commandStep_movesFill hstep hw
  · exact ⟨rfl, .inl rfl⟩
  · exact ⟨rfl, .inl rfl⟩

/-- `FillMovesOnlyByPush` looks at the parameters, FILL and the phase alone. -/
theorem FillMovesOnlyByPush.congr {s s' t t' : State} (h : FillMovesOnlyByPush s t)
    (hparams : s.params = s'.params) (hfill : s.fill = s'.fill) (hphase : s.phase = s'.phase)
    (htparams : t'.params = t.params) (htfill : t'.fill = t.fill) :
    FillMovesOnlyByPush s' t' := by
  unfold FillMovesOnlyByPush fillAfterPush at *
  rwa [htparams, htfill, ← hparams, ← hfill, ← hphase]

/-- At an edge without reset the tick on either side of the command leaves FILL alone. -/
theorem step_movesFill {s t : State} (h : step s = .next t) (hr : (nextEdge s).rst = false) :
    FillMovesOnlyByPush s t := by
  rcases step_cases h with ⟨hrst, _⟩ | ⟨_, a, b, ha, hb, ht⟩
  · simp [hr] at hrst
  · have hab := commandEdge_movesFill hb
    have hbefore : a.params = s.params ∧ a.fill = s.fill ∧ a.phase = s.phase := by
      rcases ha with rfl | rfl <;> simp
    have hafter : t.params = b.params ∧ t.fill = b.fill := by
      rcases ht with rfl | rfl <;> simp
    obtain ⟨hparams, hfill, hphase⟩ := hbefore
    obtain ⟨htparams, htfill⟩ := hafter
    exact hab.congr hparams hfill hphase htparams htfill

/-- An edge at which WARM rises has no reset, and a PUSH or CYCLE commits at it. -/
theorem step_warm_rises {s t : State} (h : step s = .next t) (hs : warm s = false)
    (ht : warm t = true) :
    ∃ w raw, (nextEdge s).rst = false ∧ s.phase = .executing w 0 ∧
      (decode w = .ok (.push raw) ∨ decode w = .ok (.cycle raw)) := by
  rcases step_cases h with ⟨_, rfl⟩ | ⟨hr, _⟩
  · simp [warm_resetBlock] at ht
  · obtain ⟨hparams, hfill | ⟨_, w, raw, hphase, hdecode⟩⟩ := step_movesFill h hr
    · simp [warm_congr hparams hfill, hs] at ht
    · exact ⟨w, raw, hr, hphase, hdecode⟩

/-- An edge without reset keeps WARM. -/
theorem step_keeps_warm {s t : State} (h : step s = .next t) (hr : (nextEdge s).rst = false)
    (hs : warm s = true) : warm t = true := by
  obtain ⟨hparams, hfill | ⟨hfill, _⟩⟩ := step_movesFill h hr
  · rwa [warm_congr hparams hfill]
  · exact warm_of_fillAfterPush hparams hfill hs

/-- Settles O24: the count by induction over the actions from FILL = 0, WARM at an edge by what a
step can do to FILL. -/
theorem fillCountsSamplesUpToN : Obligations.FillCountsSamplesUpToN := by
  refine ⟨fun p t actions hreset hrun ht => ?_, fun s t _ => step_warm_rises,
    fun s t _ h hs ht => ?_⟩
  · obtain ⟨hparams, hfill⟩ := runActions_fill_toNat hreset hrun ht (Nat.zero_le _)
    have hcount : t.fill.toNat = min (samplesIn actions).length p.n := by
      simpa [State.resetFor] using hfill
    have hwarm : warm t = true ↔ t.fill.toNat = p.n := by
      rw [warm_iff, hparams]; rfl
    refine ⟨hcount, hwarm, ?_⟩
    rw [hwarm, hcount]
    omega
  · by_contra hr
    have hwarm := step_keeps_warm h (by simpa using hr) hs
    simp [hwarm] at ht

end Sys2Proof.Proofs
end

section
/-! PROOFS. 30_encoding.md: the match and mask table (R74), the illegal words (R76, R77) and the
pseudo-instructions (R80). -/

namespace Sys2Proof.Proofs

open Sys2Proof.Machine Sys2Proof.Laws

/-! ### The match and mask table -/

theorem admits_iff (r : Row) (w : CommandWord) : r.admits w = true ↔ w &&& r.mask = r.pattern := by
  simp [Row.admits]

/-- Two rows whose patterns differ on the bits that both masks look at match no word together. -/
theorem not_both_match {m m' p p' w : CommandWord} (hne : p &&& m' ≠ p' &&& m)
    (h : w &&& m = p) : w &&& m' ≠ p' := by
  intro h'
  apply hne
  rw [← h, ← h', BitVec.and_assoc, BitVec.and_assoc, BitVec.and_comm m m']

/-- 30_encoding.md R74: on the bits both masks look at, the patterns of any two rows differ. -/
theorem rows_patterns_differ :
    rows.Pairwise (fun r q => r.pattern &&& q.mask ≠ q.pattern &&& r.mask) := by
  decide

theorem rows_disjoint : rows.Pairwise
    (fun r q => ∀ w : CommandWord, w &&& r.mask = r.pattern → w &&& q.mask ≠ q.pattern) :=
  rows_patterns_differ.imp fun hne _ => not_both_match hne

/-- Where no two members both pass the test, the search finds whichever member passes. -/
theorem find?_eq_some_of_pairwise {α : Type} {test : α → Bool} {l : List α} {a : α}
    (hl : l.Pairwise (fun b c => test b = true → test c ≠ true)) (ha : a ∈ l)
    (hp : test a = true) : l.find? test = some a := by
  induction l with
  | nil => simp at ha
  | cons b rest ih =>
    obtain ⟨hb, hrest⟩ := List.pairwise_cons.mp hl
    rcases List.mem_cons.mp ha with rfl | ha
    · exact List.find?_cons_of_pos hp
    · have hneg : test b ≠ true := fun hpb => hb a ha hpb hp
      rw [List.find?_cons_of_neg hneg]
      exact ih hrest ha

/-- The decoder's search finds the row that admits the word, wherever it stands in the table. -/
theorem find?_rows_eq_some_iff {w : CommandWord} {r : Row} :
    rows.find? (fun r => r.admits w) = some r ↔ r ∈ rows ∧ w &&& r.mask = r.pattern := by
  constructor
  · intro h
    have hadmits : r.admits w = true := List.find?_some (p := fun r => Row.admits r w) h
    exact ⟨List.mem_of_find?_eq_some h, (admits_iff r w).mp hadmits⟩
  · rintro ⟨hr, hw⟩
    refine find?_eq_some_of_pairwise (rows_disjoint.imp fun hne => ?_) hr ((admits_iff r w).mpr hw)
    simp only [ne_eq, admits_iff]
    exact hne w

/-- The decoder by the table alone, without the order of its search. -/
theorem decode_eq_ok_iff (w : CommandWord) (i : Instr) :
    decode w = .ok i ↔
      ∃ r ∈ rows, w &&& r.mask = r.pattern ∧ i = r.command (fieldA w) (fieldD w) := by
  constructor
  · intro h
    unfold decode at h
    split at h
    · next r hfind =>
      obtain ⟨hr, hw⟩ := find?_rows_eq_some_iff.mp hfind
      injection h with h
      exact ⟨r, hr, hw, h.symm⟩
    · cases h
  · rintro ⟨r, hr, hw, rfl⟩
    rw [decode, find?_rows_eq_some_iff.mpr ⟨hr, hw⟩]

/-- Settles O2: no two patterns agree where both masks look, so the decoder's search finds the one
row that matches. -/
theorem matchMaskTableIsUnambiguous : Obligations.MatchMaskTableIsUnambiguous :=
  ⟨fun _ _ => rfl, decode_eq_ok_iff, rows_disjoint⟩

/-! ### The illegal words -/

/-- A mask and a pattern given field by field are tested field by field. -/
theorem and_makeWord_eq_iff (w : CommandWord) (opMask aMask op a : U8) (dMask d : U16) :
    w &&& makeWord opMask aMask dMask = makeWord op a d ↔
      fieldOP w &&& opMask = op ∧ fieldA w &&& aMask = a ∧ fieldD w &&& dMask = d := by
  conv_lhs => rw [← makeWord_fields w, makeWord_and]
  constructor
  · exact makeWord_inj
  · rintro ⟨rfl, rfl, rfl⟩
    rfl

/-- A mask of ones where the test is on, of zeros where it is off. -/
theorem and_ite_allOnes_eq_zero_iff {n : Nat} (x : BitVec n) (on : Bool) :
    x &&& (if on then BitVec.allOnes n else 0) = 0 ↔ (on = true → x.toNat = 0) := by
  cases on
  · simp
  · simp [BitVec.toNat_eq]

/-- What a row of the table asks of a word: its opcode, and whether field A and field D must be 0
(30_encoding.md R73). -/
structure FieldTest where
  op : U8
  zeroA : Bool
  zeroD : Bool

namespace FieldTest

/-- The mask that looks at the opcode and at the "must be 0" fields. -/
def mask (f : FieldTest) : CommandWord :=
  makeWord 0xFF (if f.zeroA then 0xFF else 0) (if f.zeroD then 0xFFFF else 0)

/-- The pattern: the opcode, and 0 in both fields. -/
def pattern (f : FieldTest) : CommandWord := makeWord f.op 0 0

/-- The test in the word's number (30_encoding.md R70). -/
def Passes (f : FieldTest) (w : CommandWord) : Prop :=
  w.toNat / 2 ^ 24 = f.op.toNat ∧ (f.zeroA = true → w.toNat / 2 ^ 16 % 2 ^ 8 = 0) ∧
    (f.zeroD = true → w.toNat % 2 ^ 16 = 0)

theorem and_mask_eq_pattern_iff (f : FieldTest) (w : CommandWord) :
    w &&& f.mask = f.pattern ↔ f.Passes w := by
  have hop : fieldOP w &&& 0xFF = fieldOP w := BitVec.and_allOnes
  have ha : fieldA w &&& (if f.zeroA then 0xFF else 0) = 0 ↔
      (f.zeroA = true → (fieldA w).toNat = 0) := and_ite_allOnes_eq_zero_iff _ _
  have hd : fieldD w &&& (if f.zeroD then 0xFFFF else 0) = 0 ↔
      (f.zeroD = true → (fieldD w).toNat = 0) := and_ite_allOnes_eq_zero_iff _ _
  rw [mask, pattern, and_makeWord_eq_iff, hop, ha, hd, BitVec.toNat_eq, fieldOP_toNat,
    fieldA_toNat, fieldD_toNat, Passes]

end FieldTest

/-- The tests of the table's rows, in its order. -/
def fieldTests : List FieldTest :=
  [⟨1, true, true⟩, ⟨2, false, false⟩, ⟨3, true, false⟩, ⟨4, true, true⟩, ⟨5, true, false⟩,
   ⟨6, true, false⟩, ⟨7, true, false⟩, ⟨8, false, true⟩]

theorem rows_eq_fieldTests :
    rows.map (fun r => (r.mask, r.pattern)) = fieldTests.map (fun f => (f.mask, f.pattern)) := by
  decide

theorem exists_row_matches_iff (w : CommandWord) :
    (∃ r ∈ rows, w &&& r.mask = r.pattern) ↔ ∃ f ∈ fieldTests, f.Passes w := by
  calc (∃ r ∈ rows, w &&& r.mask = r.pattern)
      ↔ ∃ m ∈ rows.map (fun r => (r.mask, r.pattern)), w &&& m.1 = m.2 := by simp
    _ ↔ ∃ f ∈ fieldTests, w &&& f.mask = f.pattern := by rw [rows_eq_fieldTests]; simp
    _ ↔ ∃ f ∈ fieldTests, f.Passes w := by simp only [FieldTest.and_mask_eq_pattern_iff]

/-- A word is a command's exactly when its number passes some row's test (30_encoding.md R73 to
R75). -/
theorem exists_decode_eq_ok_iff (w : CommandWord) :
    (∃ i, decode w = .ok i) ↔ ∃ f ∈ fieldTests, f.Passes w := by
  rw [← exists_row_matches_iff]
  constructor
  · rintro ⟨i, hi⟩
    obtain ⟨r, hr, hw, _⟩ := (decode_eq_ok_iff w i).mp hi
    exact ⟨r, hr, hw⟩
  · rintro ⟨r, hr, hw⟩
    exact ⟨_, (decode_eq_ok_iff w _).mpr ⟨r, hr, hw, rfl⟩⟩

/-- The decoder is total: what is no command is illegal. -/
theorem exists_decode_eq_error_iff (w : CommandWord) :
    (∃ reason, decode w = .error reason) ↔ ¬ ∃ i, decode w = .ok i := by
  cases decode w <;> simp

/-- The eight tests, grouped by the fields that must be 0. -/
theorem exists_fieldTest_passes_iff (w : CommandWord) (op a d : Nat)
    (hop : w.toNat / 2 ^ 24 = op) (ha : w.toNat / 2 ^ 16 % 2 ^ 8 = a) (hd : w.toNat % 2 ^ 16 = d) :
    (∃ f ∈ fieldTests, f.Passes w) ↔
      ((op = 1 ∨ op = 4) ∧ a = 0 ∧ d = 0) ∨ op = 2 ∨
        ((op = 3 ∨ op = 5 ∨ op = 6 ∨ op = 7) ∧ a = 0) ∨ (op = 8 ∧ d = 0) := by
  simp only [fieldTests, FieldTest.Passes, hop, ha, hd, List.exists_mem_cons_iff, List.not_mem_nil,
    BitVec.ofNat_eq_ofNat, BitVec.toNat_ofNat, forall_const,
    Bool.false_eq_true, false_implies, and_true, true_and, false_and, exists_false, or_false]
  omega

/-- Settles O3: the eight tests of the table, spelled out in the word's number, are the complement
of R76's opcodes and R77's fields. -/
theorem illegalWordsExactly : Obligations.IllegalWordsExactly := by
  intro w op a d reservedOpcode reservedField
  have hlegal := (exists_decode_eq_ok_iff w).trans <|
    exists_fieldTest_passes_iff w op a d rfl rfl rfl
  have hillegal := exists_decode_eq_error_iff w
  refine ⟨fun hop => ?_, fun hfield => ?_, fun hop hfield => ?_, _, rfl⟩
  · rw [hillegal, hlegal]
    omega
  · rw [hillegal, hlegal]
    omega
  · rw [hlegal]
    omega

/-! ### The pseudo-instructions -/

theorem fitsA_outCh (p : Params) : fitsA p.outCh = true := by
  have := outCh_lt p
  have := numCh_le p
  exact decide_eq_true (by omega)

/-- SET_OUT is a SET_DUTY whose channel always fits field A. -/
theorem assemble_setOut (p : Params) (v : Nat) :
    assemble p (.setOut v) = assemble p (.setDuty p.outCh v) := by
  have hwf : (Asm.setDuty p.outCh v).wellFormed = (Asm.setOut v).wellFormed := by
    simp [Asm.wellFormed, fitsA_outCh]
  rw [assemble, assemble, hwf]
  rfl

theorem assemble_warmup (p : Params) {v : Nat} (hv : v ≤ 65535) :
    assemble p (.warmup v) = some (List.replicate p.n (encode (.push (BitVec.ofNat 16 v)))) := by
  simp [assemble, Asm.wellFormed, fitsD, hv, expand]

theorem runCommands_cons_of_next {i : Instr} {rest : List Instr} {s t : State}
    (h : exec i s = .next t) : runCommands (i :: rest) s = runCommands rest t := by
  rw [runCommands, h]

/-- `k` samples, each of them `raw`, are in: they fill the `k` slots from `start` on, modulo N, and
FILL counts them up to N. -/
structure FilledWith (raw : U16) (start k : Nat) (s : State) : Prop where
  unfaulted : s.flt = false
  winLength : s.win.length = s.params.n
  wp : s.wp.toNat = (start + k) % s.params.n
  fill : min k s.params.n ≤ s.fill.toNat
  fillBound : s.fill.toNat ≤ s.params.n
  slots : ∀ j < k, s.win[(start + j) % s.params.n]? = some raw

theorem filledWith_zero (raw : U16) {s : State} (hs : BlockInv s) (hf : s.flt = false) :
    FilledWith raw s.wp.toNat 0 s where
  unfaulted := hf
  winLength := hs.winLength
  wp := (Nat.mod_eq_of_lt hs.wpInRange).symm
  fill := by simp
  fillBound := hs.fillBound
  slots := by simp

/-- Writing a value leaves every slot that holds this value as it is. -/
theorem getElem?_set_of_eq_some {l : List U16} {i j : Nat} {raw : U16} (h : l[i]? = some raw) :
    (l.set j raw)[i]? = some raw := by
  obtain ⟨hi, _⟩ := List.getElem?_eq_some_iff.mp h
  by_cases hij : j = i
  · subst hij
    simp [hi]
  · rw [List.getElem?_set_ne hij, h]

/-- WP < N ≤ 255, so the next slot's number needs no truncation to 8 bits. -/
theorem pushOp_wp_toNat (raw : U16) (s : State) :
    (pushOp raw s).wp.toNat = (s.wp.toNat + 1) % s.params.n := by
  have hlt := Nat.mod_lt (s.wp.toNat + 1) (n_pos s.params)
  have hn := n_le s.params
  rw [pushOp_wp, BitVec.toNat_ofNat]
  exact Nat.mod_eq_of_lt (by omega)

theorem pushOp_fill_toNat (raw : U16) (s : State) :
    (pushOp raw s).fill.toNat = min (s.fill.toNat + 1) s.params.n :=
  fillAfterPush_toNat s

/-- One more PUSH of the same sample fills the next slot. -/
theorem FilledWith.push {raw : U16} {start k : Nat} {s : State} (h : FilledWith raw start k s) :
    ∃ t, exec (.push raw) s = .next t ∧ t.params = s.params ∧ FilledWith raw start (k + 1) t := by
  have hwp : s.wp.toNat < s.win.length := by
    rw [h.wp, h.winLength]
    exact Nat.mod_lt _ (n_pos s.params)
  have hfill := h.fill
  refine ⟨_, exec_of_effect (.pushed h.unfaulted hwp), rfl, ?_⟩
  constructor
  case unfaulted => exact h.unfaulted
  case winLength => simpa using h.winLength
  case wp =>
    rw [respond_wp, pushOp_wp_toNat, h.wp, Nat.mod_add_mod, Nat.add_assoc]
    rfl
  case fill =>
    rw [respond_fill, pushOp_fill_toNat, respond_params, pushOp_params]
    omega
  case fillBound =>
    rw [respond_fill, pushOp_fill_toNat, respond_params, pushOp_params]
    omega
  case slots =>
    intro j hj
    simp only [respond_win, pushOp_win, respond_params, pushOp_params]
    rcases Nat.lt_succ_iff_lt_or_eq.mp hj with hj | rfl
    · exact getElem?_set_of_eq_some (h.slots j hj)
    · rw [← h.wp, List.getElem?_set_self hwp]

/-- `m` more PUSHes of the same sample fill the next `m` slots. -/
theorem FilledWith.run_replicate_push {raw : U16} {start k : Nat} {s : State}
    (h : FilledWith raw start k s) (m : Nat) :
    ∃ t, runCommands (List.replicate m (.push raw)) s = .next t ∧ t.params = s.params ∧
      FilledWith raw start (k + m) t := by
  induction m generalizing s k with
  | zero => exact ⟨s, rfl, rfl, h⟩
  | succ m ih =>
    obtain ⟨u, hexec, huparams, hu⟩ := h.push
    obtain ⟨t, hrun, htparams, ht⟩ := ih hu
    refine ⟨t, ?_, htparams.trans huparams, ?_⟩
    · rw [List.replicate_succ, runCommands_cons_of_next hexec, hrun]
    · rwa [Nat.add_assoc, Nat.add_comm 1 m] at ht

/-- Counting on from `start`, modulo `n`, passes every number below `n`. -/
theorem exists_add_mod_eq (start : Nat) {i n : Nat} (hi : i < n) :
    ∃ j < n, (start + j) % n = i := by
  have hstart := Nat.mod_lt start (Nat.zero_lt_of_lt hi)
  refine ⟨(i + (n - start % n)) % n, Nat.mod_lt _ (Nat.zero_lt_of_lt hi), ?_⟩
  calc (start + (i + (n - start % n)) % n) % n
      = (start % n + (i + (n - start % n))) % n := by rw [Nat.add_mod_mod, Nat.mod_add_mod]
    _ = (i + n) % n := by congr 1; omega
    _ = i := by rw [Nat.add_mod_right, Nat.mod_eq_of_lt hi]

/-- N slots in a row, modulo N, are all the slots. -/
theorem FilledWith.win_eq_replicate {raw : U16} {start : Nat} {s : State}
    (h : FilledWith raw start s.params.n s) : s.win = List.replicate s.params.n raw := by
  refine List.ext_getElem (by simp [h.winLength]) fun i hi _ => ?_
  obtain ⟨j, hj, hji⟩ := exists_add_mod_eq start (h.winLength ▸ hi)
  have hslot := h.slots j hj
  rw [hji, List.getElem?_eq_getElem hi] at hslot
  rw [List.getElem_replicate]
  exact Option.some.inj hslot

theorem FilledWith.warm {raw : U16} {start : Nat} {s : State}
    (h : FilledWith raw start s.params.n s) : warm s = true := by
  have hfill := h.fill
  have hbound := h.fillBound
  rw [warm_iff]
  omega

/-- Settles O6: the expansions by what the assembler checks and emits, WARMUP's window by counting
the slots its PUSHes fill. -/
theorem pseudoInstructionsExpand : Obligations.PseudoInstructionsExpand := by
  intro p v hv
  refine ⟨assemble_setOut p v, assemble_warmup p hv, rfl, rfl, ?_⟩
  rintro s hs rfl hf
  obtain ⟨t, hrun, hparams, ht⟩ :=
    (filledWith_zero (BitVec.ofNat 16 v) hs hf).run_replicate_push s.params.n
  rw [Nat.zero_add, ← hparams] at ht
  exact ⟨t, hrun, ht.warm, by rw [ht.win_eq_replicate, hparams]⟩

end Sys2Proof.Proofs
end

section
/-! PROOFS. 40_sample_window.md: what a push does (R101), the last N samples (R102), and the average
(R105, R106). -/

namespace Sys2Proof.Proofs

open Sys2Proof.Machine Sys2Proof.Laws

/-! ### Sums of slots, and the last samples of a list -/

theorem slotSum_cons (x : U16) (xs : List U16) : slotSum (x :: xs) = x.toNat + slotSum xs := by
  simp [slotSum]

theorem slotSum_append (xs ys : List U16) : slotSum (xs ++ ys) = slotSum xs + slotSum ys := by
  simp [slotSum]

theorem slotSum_singleton (x : U16) : slotSum [x] = x.toNat := by
  simp [slotSum]

theorem slotSum_replicate (k : Nat) (x : U16) : slotSum (List.replicate k x) = k * x.toNat := by
  simp [slotSum]

theorem slotSum_perm {xs ys : List U16} (h : xs.Perm ys) : slotSum xs = slotSum ys :=
  (h.map BitVec.toNat).sum_eq

/-- A sample has 16 bits. -/
theorem slotSum_le (xs : List U16) : slotSum xs ≤ xs.length * 65535 := by
  induction xs with
  | nil => simp [slotSum]
  | cons x xs ih =>
    have := x.isLt
    rw [slotSum_cons, List.length_cons]
    omega

theorem lastOf_append_of_le {k : Nat} (xs : List U16) {ys : List U16} (h : k ≤ ys.length) :
    lastOf k (xs ++ ys) = lastOf k ys := by
  rw [lastOf, lastOf, List.length_append, Nat.add_sub_assoc h, List.drop_length_add_append]

/-- What came before the last `k` is not among the last `k` later either. -/
theorem lastOf_lastOf_append {k : Nat} {xs : List U16} (ys : List U16) (h : k ≤ xs.length) :
    lastOf k (lastOf k xs ++ ys) = lastOf k (xs ++ ys) := by
  have hlen : k ≤ (lastOf k xs ++ ys).length := by
    simp only [lastOf, List.length_append, List.length_drop]
    omega
  have hsplit : xs.take (xs.length - k) ++ lastOf k xs = xs := List.take_append_drop _ xs
  rw [← lastOf_append_of_le (xs.take (xs.length - k)) hlen, ← List.append_assoc, hsplit]

theorem lastOf_of_length_eq {k : Nat} {xs : List U16} (h : xs.length = k) : lastOf k xs = xs := by
  simp [lastOf, h]

theorem lastOf_replicate {j k : Nat} (x : U16) (h : j ≤ k) :
    lastOf j (List.replicate k x) = List.replicate j x := by
  rw [lastOf, List.length_replicate, List.drop_replicate, Nat.sub_sub_self h]

/-! ### The slots in the order of their age -/

/-- The slots from WP on, wrapping after slot N - 1: the oldest sample first. -/
def oldestFirst (s : State) : List U16 := s.win.rotate s.wp.toNat

/-- Win[WP], which the next push evicts. -/
def evicted (s : State) : U16 := s.win.getD s.wp.toNat 0

/-- The slots that the next push keeps, the oldest first. -/
def keptSlots (s : State) : List U16 := s.win.drop (s.wp.toNat + 1) ++ s.win.take s.wp.toNat

theorem oldestFirst_perm (s : State) : (oldestFirst s).Perm s.win :=
  List.rotate_perm _ _

/-- The clauses of `BlockInv` that pushes need: N slots, WP among them, and SUM their sum
(10_state.md R26, R27, R29). -/
structure WindowInv (s : State) : Prop where
  winLength : s.win.length = s.params.n
  wpInRange : s.wp.toNat < s.params.n
  sumOfSlots : s.sum.toNat = slotSum s.win

theorem windowInv_of_blockInv {s : State} (h : BlockInv s) : WindowInv s :=
  ⟨h.winLength, h.wpInRange, h.sumOfSlots⟩

theorem WindowInv.wp_lt_length {s : State} (h : WindowInv s) : s.wp.toNat < s.win.length :=
  h.winLength ▸ h.wpInRange

theorem WindowInv.oldestFirst_length {s : State} (h : WindowInv s) :
    (oldestFirst s).length = s.params.n := by
  rw [oldestFirst, List.length_rotate, h.winLength]

/-- The slot at WP is the oldest one. -/
theorem WindowInv.oldestFirst_eq {s : State} (h : WindowInv s) :
    oldestFirst s = evicted s :: keptSlots s := by
  have hwp := h.wp_lt_length
  rw [oldestFirst, List.rotate_eq_drop_append_take hwp.le, List.drop_eq_getElem_cons hwp, evicted,
    List.getD_eq_getElem _ _ hwp]
  rfl

/-- A push leaves the new sample as the youngest one. -/
theorem WindowInv.oldestFirst_pushOp {s : State} (h : WindowInv s) (raw : U16) :
    oldestFirst (pushOp raw s) = keptSlots s ++ [raw] := by
  have hwp := h.wp_lt_length
  have hlen : s.wp.toNat + 1 ≤ (s.win.set s.wp.toNat raw).length := by
    rw [List.length_set]; exact hwp
  rw [oldestFirst, pushOp_wp_toNat, pushOp_win, ← h.winLength,
    ← List.length_set (as := s.win) (i := s.wp.toNat) (a := raw), List.rotate_mod,
    List.rotate_eq_drop_append_take hlen, List.drop_set_of_lt (Nat.lt_succ_self _),
    List.take_succ_eq_append_getElem hlen, List.take_set_of_le le_rfl, List.getElem_set_self,
    keptSlots, List.append_assoc]

/-- A push keeps the last N of the slots in the order of their age and the new sample. -/
theorem WindowInv.oldestFirst_pushOp_eq_lastOf {s : State} (h : WindowInv s) (raw : U16) :
    oldestFirst (pushOp raw s) = lastOf s.params.n (oldestFirst s ++ [raw]) := by
  have hlen := h.oldestFirst_length
  rw [h.oldestFirst_eq, List.length_cons] at hlen
  rw [h.oldestFirst_pushOp, h.oldestFirst_eq, List.cons_append,
    ← List.singleton_append (x := evicted s), lastOf_append_of_le _ (by simp [hlen]),
    lastOf_of_length_eq (by simp [hlen])]

/-! ### SUM -/

theorem WindowInv.sum_eq {s : State} (h : WindowInv s) :
    s.sum.toNat = (evicted s).toNat + slotSum (keptSlots s) := by
  rw [h.sumOfSlots, ← slotSum_perm (oldestFirst_perm s), h.oldestFirst_eq, slotSum_cons]

theorem WindowInv.sum_le {s : State} (h : WindowInv s) : s.sum.toNat ≤ s.params.n * 65535 := by
  rw [h.sumOfSlots, ← h.winLength]
  exact slotSum_le s.win

/-- The 24 bits hold the new sum: N is at most 255 (40_sample_window.md R101). -/
theorem WindowInv.sumAfterPush_toNat {s : State} (h : WindowInv s) (raw : U16) :
    (sumAfterPush raw s).toNat = slotSum (keptSlots s) + raw.toNat := by
  have hsum := h.sum_eq
  have hlen := h.oldestFirst_length
  rw [h.oldestFirst_eq, List.length_cons] at hlen
  have hkept := slotSum_le (keptSlots s)
  have hn := n_le s.params
  have hevicted := (evicted s).isLt
  have hraw := raw.isLt
  have hold := s.sum.isLt
  rw [sumAfterPush, ← evicted, BitVec.toNat_add, BitVec.toNat_sub, BitVec.toNat_setWidth,
    BitVec.toNat_setWidth]
  omega

theorem WindowInv.windowInv_pushOp {s : State} (h : WindowInv s) (raw : U16) :
    WindowInv (pushOp raw s) where
  winLength := by rw [pushOp_win, List.length_set, pushOp_params, h.winLength]
  wpInRange := by rw [pushOp_wp_toNat, pushOp_params]; exact Nat.mod_lt _ (n_pos s.params)
  sumOfSlots := by
    rw [pushOp_sum, h.sumAfterPush_toNat, ← slotSum_perm (oldestFirst_perm _),
      h.oldestFirst_pushOp, slotSum_append, slotSum_singleton]

/-- Settles O10: SUM through the slots that the push keeps, WP and FILL by their integer forms. -/
theorem pushReplacesTheOldestSlot : Obligations.PushReplacesTheOldestSlot := by
  intro s raw hinv hf
  have hs := windowInv_of_blockInv hinv
  have hwp := hs.wp_lt_length
  have hsum : s.sum.toNat = (s.win.getD s.wp.toNat 0).toNat + slotSum (keptSlots s) := hs.sum_eq
  refine ⟨_, exec_of_effect (.pushed hf hwp), rfl, by omega, ?_, (hs.windowInv_pushOp raw).sum_le,
    pushOp_wp_toNat raw s, pushOp_fill_toNat raw s,
    fun hc => ⟨_, exec_of_effect (.cycled hf hc hwp), rfl⟩⟩
  rw [respond_sum, pushOp_sum, hs.sumAfterPush_toNat]
  omega

/-! ### The average -/

/-- The mean of 16-bit samples has 16 bits. -/
theorem WindowInv.avgOp_toNat {s : State} (h : WindowInv s) :
    (avgOp s).toNat = s.sum.toNat / s.params.n := by
  have hle : s.sum.toNat / s.params.n ≤ 65535 := Nat.div_le_of_le_mul h.sum_le
  rw [avgOp, meanOf, BitVec.toNat_ofNat]
  exact Nat.mod_eq_of_lt (by omega)

theorem answers_average {s : State} (hf : s.flt = false) : Answers .average s (avgOp s) :=
  exec_of_effect (.averaged hf)

/-- Settles O11: AVERAGE answers SUM / N, and SUM is the sum of the slots. -/
theorem averageIsTheTruncatedMean : Obligations.AverageIsTheTruncatedMean := by
  intro s hinv hf
  have hs := windowInv_of_blockInv hinv
  exact ⟨_, answers_average hf, hs.avgOp_toNat, hs.sumOfSlots ▸ hs.avgOp_toNat⟩

/-! ### The last N samples -/

/-- `t` has the parameters of `s`, and the window with WP and SUM of `s`. -/
def SameWindow (s t : State) : Prop :=
  t.params = s.params ∧ t.win = s.win ∧ t.wp = s.wp ∧ t.sum = s.sum

theorem SameWindow.windowInv {s t : State} (h : SameWindow s t) (hs : WindowInv s) :
    WindowInv t := by
  obtain ⟨hparams, hwin, hwp, hsum⟩ := h
  constructor
  · rw [hwin, hparams, hs.winLength]
  · rw [hwp, hparams]; exact hs.wpInRange
  · rw [hsum, hwin, hs.sumOfSlots]

theorem SameWindow.oldestFirst_eq {s t : State} (h : SameWindow s t) :
    oldestFirst t = oldestFirst s := by
  obtain ⟨_, hwin, hwp, _⟩ := h
  rw [oldestFirst, oldestFirst, hwin, hwp]

/-- An unfaulted command inserts no sample and leaves the window, or it is a PUSH or a CYCLE and
leaves the window as push_op does. -/
theorem effect_window_cases {i : Instr} {s t : State} (h : Effect i s t) (ht : t.flt = false) :
    (SameWindow s t ∧ samplesOf [i] = []) ∨
    (∃ raw, SameWindow (pushOp raw s) t ∧ samplesOf [i] = [raw]) := by
  cases h with
  | pushed => exact .inr ⟨_, ⟨rfl, rfl, rfl, rfl⟩, rfl⟩
  | cycled => exact .inr ⟨_, ⟨rfl, rfl, rfl, rfl⟩, rfl⟩
  | configured | dutySet | averaged | mapped | lookedUp | readDone =>
    exact .inl ⟨⟨rfl, rfl, rfl, rfl⟩, rfl⟩
  | ignored hf => simp [hf] at ht
  | reconfigure | badChannel | setDutyUnconfigured | gammaIndex | cycleUnconfigured
  | readUnassigned => simp at ht

/-- The window went from that of `s` to that of `t` by the insertion of `samples`. -/
structure Inserted (samples : List U16) (s t : State) : Prop where
  params : t.params = s.params
  windowInv : WindowInv t
  slots : oldestFirst t = lastOf s.params.n (oldestFirst s ++ samples)

theorem inserted_nil {s t : State} (hs : WindowInv s) (h : SameWindow s t) : Inserted [] s t where
  params := h.1
  windowInv := h.windowInv hs
  slots := by rw [List.append_nil, lastOf_of_length_eq hs.oldestFirst_length, h.oldestFirst_eq]

theorem inserted_singleton {s t : State} {raw : U16} (hs : WindowInv s)
    (h : SameWindow (pushOp raw s) t) : Inserted [raw] s t where
  params := h.1
  windowInv := h.windowInv (hs.windowInv_pushOp raw)
  slots := by rw [h.oldestFirst_eq, hs.oldestFirst_pushOp_eq_lastOf]

theorem Inserted.append {xs ys : List U16} {s t u : State} (hs : WindowInv s)
    (hst : Inserted xs s t) (htu : Inserted ys t u) : Inserted (xs ++ ys) s u where
  params := htu.params.trans hst.params
  windowInv := htu.windowInv
  slots := by
    rw [htu.slots, hst.params, hst.slots, lastOf_lastOf_append _ (by simp [hs.oldestFirst_length]),
      List.append_assoc]

/-- N samples or more leave nothing of the window before them. -/
theorem Inserted.oldestFirst_eq {samples : List U16} {s t : State} (h : Inserted samples s t)
    (hlen : s.params.n ≤ samples.length) : oldestFirst t = lastOf s.params.n samples := by
  rw [h.slots, lastOf_append_of_le _ hlen]

theorem Inserted.sum_toNat {samples : List U16} {s t : State} (h : Inserted samples s t)
    (hlen : s.params.n ≤ samples.length) :
    t.sum.toNat = slotSum (lastOf s.params.n samples) := by
  rw [h.windowInv.sumOfSlots, ← slotSum_perm (oldestFirst_perm t), h.oldestFirst_eq hlen]

theorem effect_inserted {i : Instr} {s t : State} (h : Effect i s t) (ht : t.flt = false)
    (hs : WindowInv s) : Inserted (samplesOf [i]) s t := by
  rcases effect_window_cases h ht with ⟨hsame, hnone⟩ | ⟨raw, hsame, hone⟩
  · exact hnone ▸ inserted_nil hs hsame
  · exact hone ▸ inserted_singleton hs hsame

theorem tick_sameWindow (s : State) : SameWindow s (tick s) :=
  ⟨tick_params s, tick_win s, tick_wp s, tick_sum s⟩

theorem act_inserted {a : Action} {s t : State} (h : act a s = .next t) (ha : a ≠ .reset)
    (ht : t.flt = false) (hs : WindowInv s) : Inserted (samplesIn [a]) s t := by
  rcases act_unfaulted_cases h ha ht with ⟨rfl, rfl⟩ | ⟨w, i, rfl, hd, he⟩
  · exact inserted_nil hs (tick_sameWindow s)
  · exact samplesIn_command_of_ok hd ▸ effect_inserted he ht hs

/-- A run without reset that ends unfaulted inserts the samples of its commands. -/
theorem runActions_inserted {actions : List Action} {s t : State} (hreset : .reset ∉ actions)
    (h : runActions actions s = .next t) (ht : t.flt = false) (hs : WindowInv s) :
    Inserted (samplesIn actions) s t := by
  induction actions generalizing s with
  | nil =>
    injection h with h; subst h
    exact inserted_nil hs ⟨rfl, rfl, rfl, rfl⟩
  | cons a rest ih =>
    obtain ⟨u, hact, hrest⟩ := runActions_cons_next h
    obtain ⟨ha, hreset⟩ := List.ne_and_not_mem_of_not_mem_cons hreset
    have hu : u.flt = false := runActions_unfaulted hreset hrest ht
    have hfirst := act_inserted hact ha.symm hu hs
    exact samplesIn_cons a rest ▸ hfirst.append hs (ih hreset hrest hfirst.windowInv)

/-- Settles O21: the slots in the order of their age are the last N samples in theirs. -/
theorem windowHoldsTheLastSamples : Obligations.WindowHoldsTheLastSamples := by
  intro s t actions hinv hreset hrun ht hlen
  have h := runActions_inserted hreset hrun ht (windowInv_of_blockInv hinv)
  exact ⟨h.oldestFirst_eq hlen ▸ (oldestFirst_perm t).symm, h.sum_toNat hlen⟩

/-! ### Repeated samples -/

/-- PUSHes in a row run, and insert their operands. -/
theorem run_pushes_inserted (samples : List U16) {s : State} (hs : WindowInv s)
    (hf : s.flt = false) :
    ∃ t, runCommands (samples.map .push) s = .next t ∧ t.flt = false ∧ Inserted samples s t := by
  induction samples generalizing s with
  | nil => exact ⟨s, rfl, hf, inserted_nil hs ⟨rfl, rfl, rfl, rfl⟩⟩
  | cons raw rest ih =>
    have hpush := Effect.pushed (raw := raw) hf hs.wp_lt_length
    have hfirst : Inserted [raw] s _ := effect_inserted hpush hf hs
    obtain ⟨t, hrun, ht, hrest⟩ := ih hfirst.windowInv hf
    refine ⟨t, ?_, ht, hfirst.append hs hrest⟩
    rw [List.map_cons, runCommands_cons_of_next (exec_of_effect hpush), hrun]

/-- Where SUM is N times a value, AVERAGE answers the value. -/
theorem WindowInv.avgOp_eq {s : State} {v : U16} (h : WindowInv s)
    (hsum : s.sum.toNat = s.params.n * v.toNat) : avgOp s = v := by
  apply BitVec.eq_of_toNat_eq
  rw [h.avgOp_toNat, hsum, Nat.mul_div_cancel_left _ (n_pos s.params)]

/-- Settles O22: the last N of the pushed samples are N times the value. -/
theorem repeatedSampleIsItsAverage : Obligations.RepeatedSampleIsItsAverage := by
  intro s v k hinv hf hk
  obtain ⟨t, hrun, ht, hins⟩ :=
    run_pushes_inserted (List.replicate k v) (windowInv_of_blockInv hinv) hf
  have hsum : t.sum.toNat = t.params.n * v.toNat := by
    rw [hins.sum_toNat (by simpa using hk), lastOf_replicate v hk, slotSum_replicate, hins.params]
  rw [List.map_replicate] at hrun
  exact ⟨t, hrun, hins.windowInv.avgOp_eq hsum ▸ answers_average ht⟩

end Sys2Proof.Proofs
end

section
/-! PROOFS. 41_range_mapper.md: MAP's answer (R121, R122), the widths that compute it (R123),
monotonicity (R124), and the ends of the clamp range (R125, R126). -/

namespace Sys2Proof.Proofs

open Sys2Proof.Machine Sys2Proof.Laws

/-! ### The clamped value -/

theorem minDist_le_clampOp (p : Params) (x : U16) :
    p.minDist.toNat ≤ (clampOp p x).toNat := by
  have := min_lt_max p
  rw [clampOp_toNat]
  omega

theorem clampOp_le_maxDist (p : Params) (x : U16) :
    (clampOp p x).toNat ≤ p.maxDist.toNat := by
  rw [clampOp_toNat]
  exact Nat.min_le_right _ _

theorem clampOp_mono (p : Params) {x y : U16} (h : x.toNat ≤ y.toNat) :
    (clampOp p x).toNat ≤ (clampOp p y).toNat := by
  rw [clampOp_toNat, clampOp_toNat]
  omega

theorem clampOp_of_le_minDist {p : Params} {x : U16} (h : x.toNat ≤ p.minDist.toNat) :
    clampOp p x = p.minDist := by
  have := min_lt_max p
  apply BitVec.eq_of_toNat_eq
  rw [clampOp_toNat]
  omega

theorem clampOp_of_maxDist_le {p : Params} {x : U16} (h : p.maxDist.toNat ≤ x.toNat) :
    clampOp p x = p.maxDist := by
  apply BitVec.eq_of_toNat_eq
  rw [clampOp_toNat]
  omega

/-! ### The quotient that the map takes from 255 -/

/-- The truncated quotient of R121, which rises from 0 to 255 over the clamp range. -/
def mapQuotient (p : Params) (x : U16) : Nat :=
  (((clampOp p x).toNat - p.minDist.toNat) * 255) / (p.maxDist.toNat - p.minDist.toNat)

theorem mapOp_toNat_eq_sub_mapQuotient (p : Params) (x : U16) :
    (mapOp p x).toNat = 255 - mapQuotient p x :=
  mapOp_toNat p x

/-- The clamped value is at most the range's length above MIN_DIST (R122). -/
theorem mapQuotient_le (p : Params) (x : U16) : mapQuotient p x ≤ 255 :=
  Nat.div_le_of_le_mul
    (Nat.mul_le_mul_right 255 (Nat.sub_le_sub_right (clampOp_le_maxDist p x) _))

theorem mapQuotient_mono (p : Params) {x y : U16} (h : x.toNat ≤ y.toNat) :
    mapQuotient p x ≤ mapQuotient p y :=
  Nat.div_le_div_right (Nat.mul_le_mul_right 255 (Nat.sub_le_sub_right (clampOp_mono p h) _))

theorem mapQuotient_of_le_minDist {p : Params} {x : U16} (h : x.toNat ≤ p.minDist.toNat) :
    mapQuotient p x = 0 := by
  rw [mapQuotient, clampOp_of_le_minDist h, Nat.sub_self, Nat.zero_mul, Nat.zero_div]

/-- At MAX_DIST the division is exact. -/
theorem mapQuotient_of_maxDist_le {p : Params} {x : U16} (h : p.maxDist.toNat ≤ x.toNat) :
    mapQuotient p x = 255 := by
  rw [mapQuotient, clampOp_of_maxDist_le h]
  exact Nat.mul_div_cancel_left 255 (Nat.sub_pos_of_lt (min_lt_max p))

/-! ### MAP's answer, and the laws of the map -/

theorem answers_map {s : State} (x : U16) (hf : s.flt = false) :
    Answers (.map x) s ((mapOp s.params x).setWidth 16) :=
  exec_of_effect (.mapped hf)

/-- Settles O12: the answer is map_op's byte, zero extended, and the quotient is at most 255. -/
theorem mapAnswersTheInvertedRange : Obligations.MapAnswersTheInvertedRange := by
  intro s x hf c q
  have hclamp : (clampOp s.params x).toNat = c := clampOp_toNat s.params x
  have hquotient : mapQuotient s.params x = q := by rw [mapQuotient, hclamp]
  have hmap : (mapOp s.params x).toNat = 255 - q :=
    hquotient ▸ mapOp_toNat_eq_sub_mapQuotient s.params x
  refine ⟨_, answers_map x hf, ?_, hquotient ▸ mapQuotient_le s.params x, hclamp, hmap⟩
  rw [BitVec.toNat_setWidth_of_le (by decide), hmap]

/-- Settles O18: the quotient never decreases, and the map takes it from 255. -/
theorem mapNeverIncreases : Obligations.MapNeverIncreases := by
  intro p x y h
  rw [mapOp_toNat_eq_sub_mapQuotient, mapOp_toNat_eq_sub_mapQuotient]
  exact Nat.sub_le_sub_left (mapQuotient_mono p h) 255

theorem mapOp_of_le_minDist {p : Params} {x : U16} (h : x.toNat ≤ p.minDist.toNat) :
    mapOp p x = 255 := by
  apply BitVec.eq_of_toNat_eq
  rw [mapOp_toNat_eq_sub_mapQuotient, mapQuotient_of_le_minDist h]
  rfl

theorem mapOp_of_maxDist_le {p : Params} {x : U16} (h : p.maxDist.toNat ≤ x.toNat) :
    mapOp p x = 0 := by
  apply BitVec.eq_of_toNat_eq
  rw [mapOp_toNat_eq_sub_mapQuotient, mapQuotient_of_maxDist_le h]
  rfl

/-- Settles O19: the ends belong to the two sides on which the map is constant. -/
theorem mapEndsAndSaturation : Obligations.MapEndsAndSaturation := fun _ =>
  ⟨mapOp_of_le_minDist le_rfl, mapOp_of_maxDist_le le_rfl,
    fun _ h => mapOp_of_le_minDist h.le, fun _ h => mapOp_of_maxDist_le h.le⟩

/-! ### The map in unsigned arithmetic of a fixed width -/

/-- Two distances are at most 65535 apart, so the product needs 24 bits. -/
theorem distance_mul_255_le (c low : U16) : (c.toNat - low.toNat) * 255 ≤ 65535 * 255 := by
  have := c.isLt
  omega

/-- R121's formula in words of any width: no operation wraps where `c` lies between the ends and the
word holds the product. -/
theorem toNat_sub_mul_div {width : Nat} {c low high all : BitVec width} (hlow : low ≤ c)
    (hhigh : c ≤ high) (hfits : (c.toNat - low.toNat) * all.toNat < 2 ^ width) :
    (all - ((c - low) * all) / (high - low)).toNat =
      all.toNat - ((c.toNat - low.toNat) * all.toNat) / (high.toNat - low.toNat) := by
  have hrise : (c - low).toNat = c.toNat - low.toNat := BitVec.toNat_sub_of_le hlow
  have hrange : (high - low).toNat = high.toNat - low.toNat :=
    BitVec.toNat_sub_of_le (BitVec.le_trans hlow hhigh)
  have hproduct : ((c - low) * all).toNat = (c.toNat - low.toNat) * all.toNat := by
    rw [BitVec.toNat_mul_of_lt (hrise ▸ hfits), hrise]
  have hquotient : (((c - low) * all) / (high - low)).toNat =
      ((c.toNat - low.toNat) * all.toNat) / (high.toNat - low.toNat) := by
    rw [BitVec.toNat_udiv, hproduct, hrange]
  have hle : ((c - low) * all) / (high - low) ≤ all := by
    rw [BitVec.le_def, hquotient]
    exact Nat.div_le_of_le_mul (Nat.mul_le_mul_right _ (Nat.sub_le_sub_right hhigh _))
  rw [BitVec.toNat_sub_of_le hle, hquotient]

theorem toNat_map_formula (p : Params) (x : U16) {width : Nat} (hw : 24 ≤ width) :
    (BitVec.ofNat width 255 -
      (((clampOp p x).setWidth width - p.minDist.setWidth width) * BitVec.ofNat width 255) /
        (p.maxDist.setWidth width - p.minDist.setWidth width)).toNat = (mapOp p x).toNat := by
  have hpow : 2 ^ 24 ≤ 2 ^ width := Nat.pow_le_pow_right (by decide) hw
  have hall : (BitVec.ofNat width 255).toNat = 255 :=
    (BitVec.toNat_ofNat _ _).trans (Nat.mod_eq_of_lt (by omega))
  have hwiden (d : U16) : (d.setWidth width).toNat = d.toNat :=
    BitVec.toNat_setWidth_of_le (by omega)
  have hproduct := distance_mul_255_le (clampOp p x) p.minDist
  rw [toNat_sub_mul_div, hwiden, hwiden, hwiden, hall, mapOp_toNat]
  · rw [BitVec.le_def, hwiden, hwiden]
    exact minDist_le_clampOp p x
  · rw [BitVec.le_def, hwiden, hwiden]
    exact clampOp_le_maxDist p x
  · rw [hwiden, hwiden, hall]
    omega

/-- Settles O17: the bounds, and the formula without wrapping. -/
theorem mapIsExactInTwentyFourBits : Obligations.MapIsExactInTwentyFourBits := by
  intro p x c
  have := min_lt_max p
  have := p.maxDist.isLt
  exact ⟨distance_mul_255_le _ _, by decide, by omega, by omega,
    fun _ hw => toNat_map_formula p x hw⟩

end Sys2Proof.Proofs
end

section
/-! PROOFS. 42_gamma_table.md: LOOKUP's answer and its fault (R140, R141), and the table's laws as
LOOKUP's answers (R143). -/

namespace Sys2Proof.Proofs

open Sys2Proof.Machine Sys2Proof.Laws

/-! ### LOOKUP's answer and its fault -/

/-- cmd.D[7:0] is the index modulo 256. -/
theorem gammaIndexOf_eq_ofNat (index : U16) : gammaIndexOf index = BitVec.ofNat 8 index.toNat :=
  rfl

theorem answers_lookup {s : State} {index : U16} (hf : s.flt = false) (hi : index.toNat ≤ 255) :
    Answers (.lookup index) s (Config.gamma (BitVec.ofNat 8 index.toNat)) := by
  rw [← gammaIndexOf_eq_ofNat]
  exact exec_of_effect (.lookedUp hf hi)

/-- The first fault sets FLT, CAUSE and the response (60_exceptions.md R224). -/
theorem takesFault_raiseFault (c : Cause) {s : State} (hf : s.flt = false) :
    TakesFault (causeCode c) s (raiseFault c s) :=
  raiseFault_first c hf

theorem traps_lookup {s : State} {index : U16} (hf : s.flt = false) (hi : 255 < index.toNat) :
    Traps (.lookup index) s 4 :=
  ⟨_, exec_of_effect (.gammaIndex hf hi), takesFault_raiseFault .gammaIndex hf⟩

/-- Settles O13: the two sides of R140's bound. -/
theorem lookupAnswersTheEntry : Obligations.LookupAnswersTheEntry :=
  fun _ _ hf => ⟨answers_lookup hf, traps_lookup hf⟩

/-! ### The table's laws -/

/-- 00_scope.md R9 orders adjacent entries, so it orders any two, by induction from the lower index
to the higher. -/
theorem legalGamma_mono {table : U8 → U16} (h : Config.LegalGamma table) {i j : Nat}
    (hij : i ≤ j) (hj : j ≤ 255) :
    (table (BitVec.ofNat 8 i)).toNat ≤ (table (BitVec.ofNat 8 j)).toNat := by
  obtain ⟨hadjacent, -, -⟩ := h
  induction j, hij using Nat.le_induction with
  | base => exact le_rfl
  | succ k _ ih =>
    have hk : (BitVec.ofNat 8 k).toNat < 255 := by
      rw [BitVec.toNat_ofNat]
      omega
    have hnext : BitVec.ofNat 8 (k + 1) = BitVec.ofNat 8 k + 1 := BitVec.ofNat_add k 1
    calc (table (BitVec.ofNat 8 i)).toNat
      _ ≤ (table (BitVec.ofNat 8 k)).toNat := ih (by omega)
      _ ≤ (table (BitVec.ofNat 8 k + 1)).toNat := hadjacent _ hk
      _ = (table (BitVec.ofNat 8 (k + 1))).toNat := by rw [hnext]

/-- Settles O20: LOOKUP answers the entries of a legal table, so the table's laws are the laws of
its answers. -/
theorem lookupIsMonotoneWithFixedEnds : Obligations.LookupIsMonotoneWithFixedEnds := by
  intro s hf
  obtain ⟨-, hfirst, hlast⟩ := gamma_legal
  refine ⟨?first, ?last, fun i j hij hj => ?ordered⟩
  case first => exact hfirst ▸ answers_lookup hf (index := 0) (by decide)
  case last => exact hlast ▸ answers_lookup hf (index := 255) (by decide)
  case ordered =>
    exact ⟨_, _, answers_lookup hf (hij.trans hj), answers_lookup hf hj,
      legalGamma_mono gamma_legal hij hj⟩

end Sys2Proof.Proofs
end

section
/-! PROOFS. 43_pwm_driver.md: the tick (R166), one period of the waveform (R167), who may change the
configuration (R168), and the rise and fall of CFG (R161). -/

namespace Sys2Proof.Proofs

open Sys2Proof.Machine Sys2Proof.Laws

/-! ### The tick -/

/-- Before CONFIGURE the counter is stopped. -/
theorem tick_of_unconfigured {s : State} (hc : s.cfg = false) : tick s = s := by
  simp [tick, hc]

/-- At TOP the tick wraps and loads the duties. -/
theorem tick_of_top {s : State} (hc : s.cfg = true) (ht : s.cnt = s.params.top) :
    tick s = { s with cnt := 0, dutyAct := s.dutyPend } := by
  simp [tick, hc, ht]

/-- Below TOP the tick counts; TOP has 16 bits, so the next count has too. -/
theorem tick_of_lt_top {s : State} (hc : s.cfg = true) (hlt : s.cnt.toNat < s.params.top.toNat) :
    ∃ c, tick s = { s with cnt := c } ∧ c.toNat = s.cnt.toNat + 1 := by
  have hne : s.cnt ≠ s.params.top := fun h => by rw [h] at hlt; omega
  have hsucc : (s.cnt + 1).toNat = s.cnt.toNat + 1 := BitVec.toNat_add_of_lt (by
    have := s.params.top.isLt
    simp only [BitVec.ofNat_eq_ofNat, BitVec.toNat_ofNat]
    omega)
  exact ⟨s.cnt + 1, by simp [tick, hc, hne], hsucc⟩

/-- While a response waits untaken the command agent does nothing (10_state.md R39). -/
theorem commandEdge_of_untaken {e : Edge} {s : State} (hp : s.phase = .responding)
    (hr : e.rspReady = false) : commandEdge e s = .next s := by
  simp [commandEdge, hp, hr]

/-- An edge with a tick and an untaken response is that tick, whichever agent comes first. -/
theorem step_of_untaken_tick {s : State} (hrst : (nextEdge s).rst = false)
    (htick : (nextEdge s).pwmTick = true) (hp : s.phase = .responding)
    (hr : (nextEdge s).rspReady = false) : step s = .next (tick (dropEdge s)) := by
  have hedge : ∀ u : State, tickEdge (nextEdge s) u = tick u := fun u => by simp [tickEdge, htick]
  rw [step, clockEdge, if_neg (by simp [hrst])]
  split
  · rw [hedge, commandEdge_of_untaken (by simpa using hp) hr]
  · rw [commandEdge_of_untaken (by simpa using hp) hr, afterNext_of_next, hedge]

/-- Settles O34: the branches of R166 and the lone tick edge. -/
theorem tickCountsAndWraps : Obligations.TickCountsAndWraps := by
  intro s hle
  refine ⟨tick_of_unconfigured, tick_of_top, fun hc hne => tick_of_lt_top hc ?_,
    step_of_untaken_tick⟩
  exact lt_of_le_of_ne hle (mt BitVec.eq_of_toNat_eq hne)

/-! ### One period of the waveform -/

/-- Up to the wrap, `k` ticks change CNT alone, by `k`. -/
theorem ticks_before_wrap {s : State} {k : Nat} (hc : s.cfg = true)
    (hk : s.cnt.toNat + k ≤ s.params.top.toNat) :
    ∃ c, ticks k s = { s with cnt := c } ∧ c.toNat = s.cnt.toNat + k := by
  induction k generalizing s with
  | zero => exact ⟨s.cnt, rfl, rfl⟩
  | succ k ih =>
    obtain ⟨c, htick, hcnt⟩ := tick_of_lt_top hc (by omega)
    obtain ⟨d, hticks, hd⟩ := ih (s := { s with cnt := c }) hc (by simp only; omega)
    simp only at hd
    exact ⟨d, by rw [ticks, htick, hticks], by omega⟩

/-- In a period that starts at CNT = 0, the driven pin is high exactly at the ticks below the duty,
and CNT is the tick's number. -/
theorem ticks_of_period {s : State} {k : Nat} (hc : s.cfg = true) (hzero : s.cnt = 0)
    (hk : k ≤ s.params.top.toNat) :
    (ticks k s).cnt.toNat = k ∧
    (pwmOut (ticks k s) s.params.outCh = true ↔ k < (dutyActAt s s.params.outCh).toNat) := by
  have hstart : s.cnt.toNat = 0 := by rw [hzero]; rfl
  obtain ⟨c, hticks, hcnt⟩ := ticks_before_wrap (k := k) hc (by omega)
  rw [hstart, Nat.zero_add] at hcnt
  rw [pwmOut_iff, hticks]
  simp [hc, hcnt, dutyActAt]

/-- A pin that is high at the first `d` of the coming ticks is high at `d` of them, or at all. -/
theorem highTicks_eq_min {ch k d : Nat} {s : State}
    (h : ∀ j < k, pwmOut (ticks j s) ch = true ↔ j < d) : highTicks ch k s = min d k := by
  induction k generalizing s d with
  | zero => simp [highTicks]
  | succ k ih =>
    have hnow : pwmOut s ch = true ↔ 0 < d := h 0 (by omega)
    have hlater : highTicks ch k (tick s) = min (d - 1) k :=
      ih fun j hj => (h (j + 1) (by omega)).trans (by omega)
    simp only [highTicks, hnow, hlater]
    split <;> omega

/-- Settles O36: the pin at each tick of the period, counted. -/
theorem waveformOfOnePeriod : Obligations.WaveformOfOnePeriod := by
  intro s _ hc hzero duty period
  have hpins : ∀ k, k < period → (ticks k s).cnt.toNat = k ∧
      (pwmOut (ticks k s) s.params.outCh = true ↔ k < duty) :=
    fun k hk => ticks_of_period hc hzero (Nat.le_of_lt_succ hk)
  have hcount : highTicks s.params.outCh period s = min duty period :=
    highTicks_eq_min fun k hk => (hpins k hk).2
  refine ⟨hcount, hpins, fun h => ?dark, fun h => ?alwaysHigh, fun htop h => ?oneTickLow⟩
  case dark => rw [hcount, h, Nat.zero_min]
  case alwaysHigh => rw [hcount, Nat.min_eq_right h]
  case oneTickLow =>
    have hperiod : period = 65536 := by simp [period, htop]
    rw [hcount, h, hperiod, Nat.min_eq_left (by decide)]

/-! ### The configuration -/

theorem step_params {s t : State} (h : step s = .next t) : t.params = s.params := by
  rcases step_cases h with ⟨_, rfl⟩ | ⟨hr, _⟩
  · simp
  · obtain ⟨hparams, _⟩ := step_movesFill h hr
    exact hparams

/-- A command leaves CFG as it is, or it is a CONFIGURE that an unfaulted block carries out. -/
theorem effect_cfg_cases {i : Instr} {s t : State} (h : Effect i s t) :
    t.cfg = s.cfg ∨ (i = .configure ∧ s.flt = false ∧ t.cfg = true) := by
  cases h with
  | configured hf => exact .inr ⟨rfl, hf, rfl⟩
  | ignored | reconfigure | dutySet | badChannel | setDutyUnconfigured | pushed | averaged | mapped
  | lookedUp | gammaIndex | cycled | cycleUnconfigured | readDone | readUnassigned =>
    exact .inl (by simp)

theorem exec_cfg_of_ne_configure {i : Instr} {s t : State} (h : exec i s = .next t)
    (hi : i ≠ .configure) : t.cfg = s.cfg := by
  rcases effect_cfg_cases (exec_effect h) with hcfg | ⟨rfl, _⟩
  · exact hcfg
  · exact absurd rfl hi

/-- Settles O44: what a step keeps, and what the tick, SET_DUTY and CYCLE keep. -/
theorem configurationNeverChanges : Obligations.ConfigurationNeverChanges :=
  ⟨fun _ _ => step_params, fun s => ⟨tick_params s, tick_cfg s⟩,
    fun _ _ _ _ h => ⟨effect_params (exec_effect h), exec_cfg_of_ne_configure h (by simp)⟩,
    fun _ _ _ h => ⟨effect_params (exec_effect h), exec_cfg_of_ne_configure h (by simp)⟩⟩

/-! ### The rise and fall of CFG -/

/-- From `s` to `t` CFG stays, or a CONFIGURE that commits at this edge in an unfaulted block sets
it. -/
def CfgMovesOnlyByConfigure (s t : State) : Prop :=
  t.cfg = s.cfg ∨
  (t.cfg = true ∧ ∃ w, s.phase = .executing w 0 ∧ decode w = .ok .configure ∧ s.flt = false)

theorem commandStep_movesCfg {w : CommandWord} {s t : State} (h : commandStep w s = .next t)
    (hw : s.phase = .executing w 0) : CfgMovesOnlyByConfigure s t := by
  rcases commandStep_effect h with ⟨_, _, rfl⟩ | ⟨i, hd, he⟩
  · exact .inl (raiseFault_cfg _ s)
  · rcases effect_cfg_cases he with hcfg | ⟨rfl, hf, hcfg⟩
    · exact .inl hcfg
    · exact .inr ⟨hcfg, w, hw, hd, hf⟩

theorem commandEdge_movesCfg {e : Edge} {s t : State} (h : commandEdge e s = .next t) :
    CfgMovesOnlyByConfigure s t := by
  rcases commandEdge_next h with ⟨_, _, rfl⟩ | ⟨_, _, rfl⟩ | ⟨_, _, _, rfl⟩ | ⟨w, hw, hstep⟩ |
    ⟨_, _, rfl⟩ | ⟨_, _, rfl⟩
  · exact .inl rfl
  · exact .inl rfl
  · exact .inl rfl
  · exact commandStep_movesCfg hstep hw
  · exact .inl rfl
  · exact .inl rfl

/-- At an edge without reset the tick on either side of the command leaves CFG alone. -/
theorem step_movesCfg {s t : State} (h : step s = .next t) (hr : (nextEdge s).rst = false) :
    CfgMovesOnlyByConfigure s t := by
  rcases step_cases h with ⟨hrst, _⟩ | ⟨_, a, b, ha, hb, ht⟩
  · simp [hr] at hrst
  · have hbefore : a.cfg = s.cfg ∧ a.phase = s.phase ∧ a.flt = s.flt := by
      rcases ha with rfl | rfl <;> simp
    have hafter : t.cfg = b.cfg := by rcases ht with rfl | rfl <;> simp
    obtain ⟨hcfg, hphase, hflt⟩ := hbefore
    have hab := commandEdge_movesCfg hb
    rwa [CfgMovesOnlyByConfigure, hcfg, hphase, hflt, ← hafter] at hab

/-- SET_DUTY is only valid once the block is configured (43_pwm_driver.md R161). -/
theorem traps_setDuty_of_unconfigured {s : State} (channel : U8) (duty : U16) (hf : s.flt = false)
    (hc : s.cfg = false) : Traps (.setDuty channel duty) s 2 :=
  ⟨_, exec_of_effect (.setDutyUnconfigured hf hc), takesFault_raiseFault .notConfigured hf⟩

/-- Settles O45: reset brings CFG = 0, and without reset only CONFIGURE moves CFG. -/
theorem configuredOnlyByConfigure : Obligations.ConfiguredOnlyByConfigure := by
  refine ⟨fun s t h hs ht => ?rises, fun s t h hs ht => ?falls,
    fun _ channel duty => traps_setDuty_of_unconfigured channel duty⟩
  case rises =>
    rcases step_cases h with ⟨_, rfl⟩ | ⟨hr, _⟩
    · simp at ht
    · rcases step_movesCfg h hr with hcfg | ⟨_, w, hphase, hdecode, hflt⟩
      · simp [hcfg, hs] at ht
      · exact ⟨w, hr, hphase, hdecode, hflt⟩
  case falls =>
    by_contra hr
    rcases step_movesCfg h (by simpa using hr) with hcfg | ⟨hcfg, _⟩
    · simp [hcfg, hs] at ht
    · simp [hcfg] at ht

end Sys2Proof.Proofs
end

section
/-! PROOFS. 44_pipeline.md: CYCLE and its sequence of commands (R182), the steady state (R185), and
the end to end monotonicity (R186). -/

namespace Sys2Proof.Proofs

open Sys2Proof.Machine Sys2Proof.Laws

/-! ### CYCLE and its sequence of commands -/

/-- OUT_CH is below 4, so it needs no truncation to field A. -/
theorem ofNat_outCh_toNat (p : Params) : (BitVec.ofNat 8 p.outCh).toNat = p.outCh := by
  have := outCh_lt p
  have := numCh_le p
  rw [BitVec.toNat_ofNat]
  omega

/-- The low byte of a zero extended byte is the byte: MAP's answer carries the brightness whole. -/
theorem ofNat_toNat_setWidth (b : U8) : BitVec.ofNat 8 (b.setWidth 16).toNat = b := by
  rw [BitVec.toNat_setWidth_of_le (by decide), BitVec.ofNat_toNat, BitVec.setWidth_eq]

/-- GAMMA_INDEX cannot occur on what MAP answers (42_gamma_table.md R144). -/
theorem lookedUp_setWidth {s : State} (b : U8) (hf : s.flt = false) :
    Effect (.lookup (b.setWidth 16)) s (respond true (lookupOp b) s) := by
  have hle : (b.setWidth 16).toNat ≤ 255 := by
    rw [BitVec.toNat_setWidth_of_le (by decide)]
    exact Nat.le_of_lt_succ b.isLt
  simpa only [gammaIndexOf_eq_ofNat, ofNat_toNat_setWidth] using Effect.lookedUp hf hle

/-- The sequence between PUSH and SET_DUTY: the sample is in, and the last answer was `data`. -/
def answeredAfterPush (data raw : U16) (s : State) : State := respond true data (pushOp raw s)

@[simp] theorem answeredAfterPush_rspData (data raw : U16) (s : State) :
    (answeredAfterPush data raw s).rspData = data := rfl

/-- The first four commands of the sequence answer CYCLE's intermediate values, and only PUSH moves
more than the response. CYCLE's average is the one AVERAGE answers after the push (R181). -/
theorem sequence_up_to_setDuty {s : State} (raw : U16) (hf : s.flt = false)
    (hw : s.wp.toNat < s.win.length) :
    let avg := cycleAvg raw s
    let bright := (mapOp s.params avg).setWidth 16
    exec (.push raw) s = .next (answeredAfterPush 0 raw s) ∧
    exec .average (answeredAfterPush 0 raw s) = .next (answeredAfterPush avg raw s) ∧
    exec (.map avg) (answeredAfterPush avg raw s) = .next (answeredAfterPush bright raw s) ∧
    exec (.lookup bright) (answeredAfterPush bright raw s) =
      .next (answeredAfterPush (cycleDuty raw s) raw s) :=
  ⟨exec_of_effect (.pushed hf hw), exec_of_effect (.averaged hf), exec_of_effect (.mapped hf),
    exec_of_effect (lookedUp_setWidth _ hf)⟩

/-- SET_DUTY of OUT_CH never takes BAD_CHANNEL (00_scope.md R8). -/
theorem dutySet_outCh {s : State} (duty : U16) (hf : s.flt = false) (hc : s.cfg = true) :
    Effect (.setDuty (BitVec.ofNat 8 s.params.outCh) duty) s
      (respond true 0 (setDutyPend s.params.outCh duty s)) := by
  have hlt : (BitVec.ofNat 8 s.params.outCh).toNat < s.params.numCh := by
    rw [ofNat_outCh_toNat]
    exact outCh_lt s.params
  simpa only [ofNat_outCh_toNat] using Effect.dutySet (duty := duty) hf hc hlt

/-- Settles O25: the four answers are CYCLE's own values, and CFG decides between SET_DUTY's write,
which CYCLE makes too, and its fault, which CYCLE takes before the push. -/
theorem cycleEqualsItsSequence : Obligations.CycleEqualsItsSequence := by
  intro s raw hinv hf
  have hw := (windowInv_of_blockInv hinv).wp_lt_length
  obtain ⟨hpush, haverage, hmap, hlookup⟩ := sequence_up_to_setDuty raw hf hw
  have hlast : (answeredAfterPush (cycleDuty raw s) raw s).flt = false := hf
  cases hc : s.cfg with
  | true =>
    have hset := exec_of_effect (dutySet_outCh (cycleDuty raw s) hlast hc)
    have hcycle := exec_of_effect (.cycled (raw := raw) hf hc hw)
    refine ⟨_, _, _, _, _, hpush, haverage, hmap, hlookup, hset,
      fun _ => ⟨_, hcycle, hf, rfl, ?_⟩, by simp⟩
    simp only [answeredAfterPush_rspData, ofNat_toNat_setWidth]
    rfl
  | false =>
    obtain ⟨e, hset, rfl⟩ := traps_setDuty_of_unconfigured (BitVec.ofNat 8 s.params.outCh)
      (cycleDuty raw s) hlast hc
    have hcycle : Traps (.cycle raw) s 2 :=
      ⟨_, exec_of_effect (.cycleUnconfigured hf hc), takesFault_raiseFault .notConfigured hf⟩
    exact ⟨_, _, _, _, _, hpush, haverage, hmap, hlookup, hset, by simp,
      fun _ => ⟨hcycle, rfl, rfl, rfl⟩⟩

/-! ### The steady state -/

/-- What the tick and every command keep, a run without reset that ends unfaulted keeps. -/
theorem runActions_keeps {P : State → Prop} (htick : ∀ s, P s → P (tick s))
    (heffect : ∀ i s t, Effect i s t → P s → P t) {actions : List Action} {s t : State}
    (hreset : .reset ∉ actions) (h : runActions actions s = .next t) (ht : t.flt = false)
    (hs : P s) : P t := by
  induction actions generalizing s with
  | nil => injection h with h; exact h ▸ hs
  | cons a rest ih =>
    obtain ⟨u, hact, hrest⟩ := runActions_cons_next h
    obtain ⟨ha, hreset⟩ := List.ne_and_not_mem_of_not_mem_cons hreset
    refine ih hreset hrest ?_
    rcases act_unfaulted_cases hact ha.symm (runActions_unfaulted hreset hrest ht) with
      ⟨_, rfl⟩ | ⟨_, i, _, _, he⟩
    · exact htick s hs
    · exact heffect i s u he hs

/-- No command changes how many pending duties there are. -/
theorem effect_dutyPend_length {i : Instr} {s t : State} (h : Effect i s t) :
    t.dutyPend.length = s.dutyPend.length := by
  cases h <;> simp

/-- One DUTY_PEND per channel (10_state.md R32), after any run. -/
theorem runActions_dutyPend_length {actions : List Action} {s t : State}
    (hreset : .reset ∉ actions) (h : runActions actions s = .next t) (ht : t.flt = false)
    (hs : s.dutyPend.length = s.params.numCh) : t.dutyPend.length = t.params.numCh :=
  runActions_keeps (P := fun s => s.dutyPend.length = s.params.numCh)
    (fun s hs => by rw [tick_dutyPend, tick_params, hs])
    (fun _ _ _ he hs => by rw [effect_dutyPend_length he, effect_params he, hs]) hreset h ht hs

theorem lastOf_append_singleton_of_replicate {k : Nat} {xs : List U16} {v : U16}
    (hlen : k ≤ xs.length) (h : lastOf k xs = List.replicate k v) :
    lastOf k (xs ++ [v]) = List.replicate k v := by
  rw [← lastOf_lastOf_append _ hlen, h, ← List.replicate_succ',
    lastOf_replicate v (Nat.le_succ k)]

/-- After a run whose last N samples are all `v`, the average that CYCLE `v` takes is `v`. -/
theorem Inserted.cycleAvg_eq {samples : List U16} {s t : State} {v : U16} (hs : WindowInv s)
    (h : Inserted samples s t) (hlen : s.params.n ≤ samples.length)
    (hlast : lastOf s.params.n samples = List.replicate s.params.n v) : cycleAvg v t = v := by
  have hpush : Inserted (samples ++ [v]) s (pushOp v t) :=
    h.append hs (inserted_singleton h.windowInv ⟨rfl, rfl, rfl, rfl⟩)
  have hsum : (pushOp v t).sum.toNat = (pushOp v t).params.n * v.toNat := by
    rw [hpush.sum_toNat (by rw [List.length_append]; omega),
      lastOf_append_singleton_of_replicate hlen hlast, slotSum_replicate, hpush.params]
  exact hpush.windowInv.avgOp_eq hsum

theorem dutyPendAt_cycleOp_outCh {s : State} (raw : U16)
    (hs : s.dutyPend.length = s.params.numCh) :
    dutyPendAt (cycleOp raw s) s.params.outCh = cycleDuty raw s := by
  have hlt : s.params.outCh < s.dutyPend.length := hs ▸ outCh_lt s.params
  simp [dutyPendAt, hlt]

/-- The source's three scenarios (44_pipeline.md R185): both ends of the reference clamp range, and
its middle. -/
theorem reference_scenarios (v : U16) :
    let bright := mapOp Params.reference v
    (v = 100 → bright = 255 ∧ Config.gamma bright = 65535) ∧
    (v = 240 → bright = 0 ∧ Config.gamma bright = 0) ∧
    (v = 170 → bright = 128 ∧ Config.gamma bright = Config.gamma 128) := by
  obtain ⟨-, hfirst, hlast⟩ := gamma_legal
  obtain ⟨hmin, hmax, -⟩ := mapEndsAndSaturation Params.reference
  have hmiddle : mapOp Params.reference 170 = 128 := by decide
  refine ⟨?nearest, ?farthest, ?middle⟩
  case nearest => rintro rfl; exact ⟨hmin, hmin ▸ hlast⟩
  case farthest => rintro rfl; exact ⟨hmax, hmax ▸ hfirst⟩
  case middle => rintro rfl; exact ⟨hmiddle, by rw [hmiddle]⟩

/-- Settles O26: the average is `v`, and CYCLE's other values are functions of the average. -/
theorem steadyStateOfThePipeline : Obligations.SteadyStateOfThePipeline := by
  intro s t actions v hinv hreset hrun hf hc hlen hlast
  have hs := windowInv_of_blockInv hinv
  have hins := runActions_inserted hreset hrun hf hs
  have havg : cycleAvg v t = v := hins.cycleAvg_eq hs hlen hlast
  have hduty : cycleDuty v t = Config.gamma (mapOp t.params v) := by rw [cycleDuty, havg, lookupOp]
  have hpend := runActions_dutyPend_length hreset hrun hf hinv.pendLength
  rw [← hins.params]
  refine ⟨_, exec_of_effect (.cycled hf hc hins.windowInv.wp_lt_length), havg, ?clamped, ?bright,
    hduty, rfl, rfl, dutyPendAt_cycleOp_outCh v hpend, fun href => ?scenarios⟩
  case clamped => rw [respond_diagClamped, cycleOp_diagClamped, havg, clampOp_toNat]
  case bright => rw [respond_diagBright, cycleOp_diagBright, havg]
  case scenarios =>
    rw [respond_diagBright, cycleOp_diagBright, respond_diagDuty, cycleOp_diagDuty, hduty, havg,
      href]
    exact reference_scenarios v

/-! ### End to end monotonicity -/

theorem lookupOp_mono {i j : U8} (h : i.toNat ≤ j.toNat) :
    (lookupOp i).toNat ≤ (lookupOp j).toNat := by
  simpa [lookupOp] using legalGamma_mono gamma_legal h (Nat.le_of_lt_succ j.isLt)

/-- A smaller average maps to no smaller brightness, and the table keeps the order. -/
theorem cycleDuty_antitone {s t : State} {x y : U16} (hparams : s.params = t.params)
    (h : (cycleAvg x s).toNat ≤ (cycleAvg y t).toNat) :
    (cycleDuty y t).toNat ≤ (cycleDuty x s).toNat := by
  rw [cycleDuty, cycleDuty, hparams]
  exact lookupOp_mono (mapNeverIncreases _ _ _ h)

/-- Settles O27: CYCLE latches the average and answers the duty, which never rises with it. -/
theorem nearerIsNeverDimmer : Obligations.NearerIsNeverDimmer := by
  intro s t x y hs ht hparams hsf htf hsc htc
  exact ⟨_, _, exec_of_effect (.cycled hsf hsc (windowInv_of_blockInv hs).wp_lt_length),
    exec_of_effect (.cycled htf htc (windowInv_of_blockInv ht).wp_lt_length),
    cycleDuty_antitone hparams⟩

end Sys2Proof.Proofs
end

section
/-! PROOFS. 45_register_access.md: the assigned indices, and READ's answer and fault (R201). -/

namespace Sys2Proof.Proofs

open Sys2Proof.Machine Sys2Proof.Laws

/-! ### The index map -/

theorem assignedIndex_iff (p : Params) (index : U8) :
    assignedIndex p index = true ↔ index.toNat ≤ 0x07 ∨
      (0x08 ≤ index.toNat ∧ index.toNat < 0x08 + p.numCh) ∨
      (0x0C ≤ index.toNat ∧ index.toNat < 0x0C + p.numCh) ∨
      (0x10 ≤ index.toNat ∧ index.toNat ≤ 0x15) := by
  simp [assignedIndex, or_assoc]

/-- The index column of 10_state.md R34, read from the register's side. -/
theorem toNat_eq_regIndex {index : U8} {reg : Reg} (h : regAtIndex index = some reg) :
    index.toNat = regIndex reg := by
  unfold regAtIndex at h
  split at h <;> cases h <;> assumption

/-- The index column has no gap up to its last row. -/
theorem isSome_regAtIndex_of_le : ∀ k ≤ 0x15, (regAtIndex (BitVec.ofNat 8 k)).isSome = true := by
  decide

theorem lt_toNat_of_regAtIndex_eq_none {index : U8} (h : regAtIndex index = none) :
    0x15 < index.toNat := by
  by_contra hle
  have hsome := isSome_regAtIndex_of_le index.toNat (by omega)
  simp [h] at hsome

/-- Only a duty register can be missing from a block, and R201's ranges leave out exactly those of
the channels at or above NUM_CH. At most 4 channels keep the two duty ranges apart. -/
theorem regExists_iff_assignedIndex {p : Params} {index : U8} {reg : Reg}
    (h : index.toNat = regIndex reg) : regExists p reg = true ↔ assignedIndex p index = true := by
  have hnum := numCh_le p
  rw [assignedIndex_iff, h]
  cases reg with
  | dutyPend ch | dutyAct ch =>
    have hch := ch.isLt
    simp only [regExists, regIndex, decide_eq_true_eq]
    omega
  | status | faultCause | fill | diagAvg | diagClamped | diagBright | diagDuty | pwmCnt | cfgTop
  | cfgN | cfgMin | cfgMax | cfgCh | blockId => simp [regExists, regIndex]

/-- The index map of 10_state.md R34 and the ranges of R201 assign the same indices. -/
theorem isSome_regOfIndex (p : Params) (index : U8) :
    (regOfIndex p index).isSome = true ↔ assignedIndex p index = true := by
  cases hreg : regAtIndex index with
  | some reg =>
    rw [← regExists_iff_assignedIndex (toNat_eq_regIndex hreg)]
    simp [regOfIndex, hreg, Option.filter_some]
  | none =>
    have hlast := lt_toNat_of_regAtIndex_eq_none hreg
    have hnum := numCh_le p
    simp only [assignedIndex_iff, regOfIndex, hreg, Option.filter_none, Option.isSome_none,
      Bool.false_eq_true, false_iff]
    omega

/-! ### READ's answer and its fault -/

theorem answers_read {s : State} {index : U8} (h : assignedIndex s.params index = true) :
    ∃ reg, Answers (.read index) s (regValue s reg) := by
  obtain ⟨reg, hreg⟩ := Option.isSome_iff_exists.mp ((isSome_regOfIndex _ _).mpr h)
  exact ⟨reg, exec_of_effect (.readDone hreg)⟩

theorem exec_read_unassigned {s : State} {index : U8} (h : ¬ assignedIndex s.params index = true) :
    exec (.read index) s = .next (raiseFault .illegalCommand s) :=
  exec_of_effect (.readUnassigned (Option.not_isSome_iff_eq_none.mp
    (mt (isSome_regOfIndex _ _).mp h)))

/-- A faulted block keeps the first cause and answers it (60_exceptions.md R224). -/
theorem ignoresWith_raiseFault (c : Cause) {s : State} (hf : s.flt = true) :
    IgnoresWith s (raiseFault c s) :=
  raiseFault_again c hf

/-- Settles O16: the ranges of R201 decide whether READ finds a register; where it finds none, FLT
decides between the two branches of fault entry. -/
theorem assignedIndicesExactly : Obligations.AssignedIndicesExactly := by
  intro s index r assigned
  have hassigned : assignedIndex s.params index = true ↔ assigned := assignedIndex_iff _ _
  rw [← hassigned]
  refine ⟨fun h => ?answer, fun h hf => ?fault, fun h hf => ?kept⟩
  case answer =>
    obtain ⟨reg, hanswer⟩ := answers_read h
    exact ⟨regValue s reg, hanswer⟩
  case fault =>
    exact ⟨_, exec_read_unassigned h, takesFault_raiseFault .illegalCommand hf⟩
  case kept =>
    exact ⟨_, exec_read_unassigned h, ignoresWith_raiseFault .illegalCommand hf⟩

end Sys2Proof.Proofs
end

section
/-! PROOFS. 60_exceptions.md: fault entry (R224), the command step (R225), each command's faults
(R220, R226), what goes on in a faulted block (R227), and the only return from a fault (R229). -/

namespace Sys2Proof.Proofs

open Sys2Proof.Machine Sys2Proof.Laws

/-! ### Fault entry and the command step -/

/-- Settles O28: the two branches of fault entry. -/
theorem faultEntryKeepsTheFirstCause : Obligations.FaultEntryKeepsTheFirstCause :=
  fun c s => ⟨takesFault_raiseFault c, raiseFault_flt c s, ignoresWith_raiseFault c⟩

/-- A faulted block ignores illegal words and every command but READ. -/
theorem commandStep_ignoresWith {w : CommandWord} {s : State} (hf : s.flt = true)
    (hr : ∀ index, decode w ≠ .ok (.read index)) :
    ∃ t, commandStep w s = .next t ∧ IgnoresWith s t := by
  cases hd : decode w with
  | error e => exact ⟨_, commandStep_of_error s hd, ignoresWith_raiseFault _ hf⟩
  | ok i =>
    have hne : ∀ index, i ≠ .read index := fun index hi => hr index (hi ▸ hd)
    exact ⟨_, (commandStep_of_ok s hd).trans (exec_of_effect (.ignored hf hne)), rfl⟩

/-- Settles O29: READ, and any command of an unfaulted block, runs by its own rule; an illegal word
takes fault entry, and what is left is ignored. -/
theorem commandStepTestsFltFirst : Obligations.CommandStepTestsFltFirst :=
  fun _ s => ⟨fun hf => ⟨fun _ => commandStep_of_ok s, commandStep_ignoresWith hf⟩,
    fun hf => ⟨fun _ hd => ⟨_, commandStep_of_error s hd, takesFault_raiseFault _ hf⟩,
      fun _ => commandStep_of_ok s⟩⟩

/-! ### Which fault a command takes -/

/-- The fault a command takes in an unfaulted block, if any, with the precedence of
60_exceptions.md R226: of SET_DUTY's two faults, NOT_CONFIGURED comes first. -/
def faultOf (s : State) : Instr → Option Cause
  | .configure => if s.cfg then some .reconfigure else none
  | .setDuty channel _ =>
    if s.cfg then if channel.toNat < s.params.numCh then none else some .badChannel
    else some .notConfigured
  | .lookup index => if index.toNat ≤ 255 then none else some .gammaIndex
  | .cycle _ => if s.cfg then none else some .notConfigured
  | .read index => if assignedIndex s.params index then none else some .illegalCommand
  | .push _ | .average | .map _ => none

/-- The fault a word takes in an unfaulted block, if any. -/
def faultOfWord (s : State) (w : CommandWord) : Option Cause :=
  match decode w with
  | .ok i => faultOf s i
  | .error _ => some .illegalCommand

theorem faultOfWord_of_ok {s : State} {w : CommandWord} {i : Instr} (h : decode w = .ok i) :
    faultOfWord s w = faultOf s i := by
  simp [faultOfWord, h]

theorem faultOfWord_of_error {s : State} {w : CommandWord} {e : Illegal}
    (h : decode w = .error e) : faultOfWord s w = some .illegalCommand := by
  simp [faultOfWord, h]

/-- An illegal word's fault is ILLEGAL_COMMAND, any other word's fault is its command's. -/
theorem faultOfWord_eq_some_iff {s : State} {w : CommandWord} {c : Cause} :
    faultOfWord s w = some c ↔ ((∃ reason, decode w = .error reason) ∧ c = .illegalCommand) ∨
      ∃ i, decode w = .ok i ∧ faultOf s i = some c := by
  cases hd : decode w with
  | error e => simp [faultOfWord_of_error hd, eq_comm]
  | ok i => simp [faultOfWord_of_ok hd]

/-- `faultOf` read cause by cause, as 60_exceptions.md R220 lists them. -/
theorem faultOf_eq_some_iff {s : State} {i : Instr} {c : Cause} :
    faultOf s i = some c ↔
      (c = .illegalCommand ∧ ∃ index, i = .read index ∧ assignedIndex s.params index = false) ∨
      (c = .notConfigured ∧ s.cfg = false ∧
        ((∃ channel duty, i = .setDuty channel duty) ∨ ∃ raw, i = .cycle raw)) ∨
      (c = .badChannel ∧ s.cfg = true ∧
        ∃ channel duty, i = .setDuty channel duty ∧ s.params.numCh ≤ channel.toNat) ∨
      (c = .gammaIndex ∧ ∃ index, i = .lookup index ∧ 255 < index.toNat) ∨
      (c = .reconfigure ∧ s.cfg = true ∧ i = .configure) := by
  cases i with
  | configure | setDuty | push | average | map | lookup | cycle | read => grind [faultOf]

/-! ### A command or a word in an unfaulted block -/

/-- `t` is `s` after fault entry with this cause, or, where there is none, still unfaulted with the
same CAUSE. -/
def FaultsExactlyAs (cause : Option Cause) (s t : State) : Prop :=
  (∃ c, cause = some c ∧ t = raiseFault c s) ∨ (cause = none ∧ t.flt = false ∧ t.cause = s.cause)

/-- A command's effect is fault entry exactly where `faultOf` names a cause. -/
theorem effect_faultsExactlyAs {i : Instr} {s t : State} (h : Effect i s t) (hf : s.flt = false) :
    FaultsExactlyAs (faultOf s i) s t := by
  cases h with
  | ignored hflt => simp [hf] at hflt
  | configured _ hc => exact .inr ⟨by simp [faultOf, hc], hf, rfl⟩
  | reconfigure _ hc => exact .inl ⟨_, by simp [faultOf, hc], rfl⟩
  | dutySet _ hc hch => exact .inr ⟨by simp [faultOf, hc, hch], hf, rfl⟩
  | badChannel _ hc hch => exact .inl ⟨_, by simp [faultOf, hc, Nat.not_lt.mpr hch], rfl⟩
  | setDutyUnconfigured _ hc | cycleUnconfigured _ hc =>
    exact .inl ⟨_, by simp [faultOf, hc], rfl⟩
  | pushed | averaged | mapped => exact .inr ⟨rfl, hf, rfl⟩
  | lookedUp _ hi => exact .inr ⟨by simp [faultOf, hi], hf, rfl⟩
  | gammaIndex _ hi => exact .inl ⟨_, by simp [faultOf, Nat.not_le.mpr hi], rfl⟩
  | cycled _ hc => exact .inr ⟨by simp [faultOf, hc], hf, rfl⟩
  | readDone hr =>
    have hassigned := (isSome_regOfIndex _ _).mp (Option.isSome_of_eq_some hr)
    exact .inr ⟨by simp [faultOf, hassigned], hf, rfl⟩
  | readUnassigned hr =>
    have hunassigned := mt (isSome_regOfIndex _ _).mpr (Option.not_isSome_iff_eq_none.mpr hr)
    exact .inl ⟨_, by simp [faultOf, hunassigned], rfl⟩

theorem commandStep_faultsExactlyAs {w : CommandWord} {s t : State}
    (h : commandStep w s = .next t) (hf : s.flt = false) :
    FaultsExactlyAs (faultOfWord s w) s t := by
  rcases commandStep_effect h with ⟨_, hd, rfl⟩ | ⟨i, hd, he⟩
  · exact .inl ⟨_, faultOfWord_of_error hd, rfl⟩
  · rw [faultOfWord_of_ok hd]
    exact effect_faultsExactlyAs he hf

theorem causeCode_injective : Function.Injective causeCode := by
  intro c d h
  cases c <;> cases d <;> simp [causeCode] at h ⊢

/-- The codes of 60_exceptions.md R220 that a command can raise are 1 to 5. -/
theorem causeCode_mem_range (c : Cause) : 1 ≤ (causeCode c).toNat ∧ (causeCode c).toNat ≤ 5 := by
  cases c <;> decide

theorem raiseFault_cause_of_unfaulted (c : Cause) {s : State} (hf : s.flt = false) :
    (raiseFault c s).cause = causeCode c := by
  rw [raiseFault_first c hf, respond_cause]

/-- FLT = 1 with a cause's code in CAUSE says that this cause was raised: codes name causes. -/
theorem FaultsExactlyAs.flt_and_cause_iff {cause : Option Cause} {s t : State}
    (h : FaultsExactlyAs cause s t) (hf : s.flt = false) (c : Cause) :
    t.flt = true ∧ t.cause = causeCode c ↔ cause = some c := by
  rcases h with ⟨d, rfl, rfl⟩ | ⟨rfl, hflt, _⟩
  · rw [raiseFault_flt, raiseFault_cause_of_unfaulted d hf, Option.some.injEq]
    exact (and_iff_right rfl).trans causeCode_injective.eq_iff
  · simp [hflt]

theorem FaultsExactlyAs.takesFault {cause : Option Cause} {s t : State}
    (h : FaultsExactlyAs cause s t) (hf : s.flt = false) (ht : t.flt = true) :
    ∃ c, t.cause = causeCode c ∧ TakesFault (causeCode c) s t := by
  rcases h with ⟨c, _, rfl⟩ | ⟨_, hflt, _⟩
  · exact ⟨c, raiseFault_cause_of_unfaulted c hf, takesFault_raiseFault c hf⟩
  · simp [hflt] at ht

theorem FaultsExactlyAs.cause_of_unfaulted {cause : Option Cause} {s t : State}
    (h : FaultsExactlyAs cause s t) (ht : t.flt = false) : t.cause = s.cause := by
  rcases h with ⟨c, _, rfl⟩ | ⟨_, _, hcause⟩
  · simp at ht
  · exact hcause

/-- Settles O30: the fault is a function of the word and the state, so no two conditions hold
together, and each code's condition is where that function takes its cause. -/
theorem eachCauseExactlyOnItsCondition : Obligations.EachCauseExactlyOnItsCondition := by
  intro w s t hf h
  have hfaults := commandStep_faultsExactlyAs h hf
  have hcause := fun c => (hfaults.flt_and_cause_iff hf c).trans faultOfWord_eq_some_iff
  refine ⟨fun ht => ?takes, (hcause .illegalCommand).trans ?illegal,
    (hcause .notConfigured).trans ?unconfigured, (hcause .badChannel).trans ?channel,
    (hcause .gammaIndex).trans ?index, (hcause .reconfigure).trans ?again, fun ht => ?codes,
    fun hinv ht => ?none⟩
  case takes =>
    obtain ⟨c, hcode, htakes⟩ := hfaults.takesFault hf ht
    rwa [hcode]
  case codes =>
    obtain ⟨c, hcode, _⟩ := hfaults.takesFault hf ht
    rw [hcode]
    exact causeCode_mem_range c
  case none => rw [hfaults.cause_of_unfaulted ht, ← hinv.causeOfFlt, hf]
  case illegal | unconfigured | channel | index | again => grind [faultOf_eq_some_iff]

/-! ### A faulted block -/

/-- A command of a faulted block only responds, and with ok = 1 only to READ. -/
theorem commandStep_of_faulted {w : CommandWord} {s t : State} (h : commandStep w s = .next t)
    (hf : s.flt = true) :
    ∃ ok data, t = respond ok data s ∧
      (ok = true → ∃ index, decode w = .ok (.read index)) := by
  by_cases hr : ∃ index, decode w = .ok (.read index)
  · obtain ⟨index, hd⟩ := hr
    rw [commandStep_of_ok s hd] at h
    cases exec_effect h with
    | ignored _ hne => exact absurd rfl (hne index)
    | readDone => exact ⟨_, _, rfl, fun _ => ⟨index, hd⟩⟩
    | readUnassigned => exact ⟨_, _, raiseFault_again _ hf, by simp⟩
  · obtain ⟨u, hu, hignores⟩ := commandStep_ignoresWith hf (not_exists.mp hr)
    rw [h] at hu
    injection hu with hu
    exact ⟨false, causeWord s, hu.trans hignores, by simp⟩

theorem pwmOut_respond (ok : Bool) (data : U16) (s : State) (ch : Nat) :
    pwmOut (respond ok data s) ch = pwmOut s ch := rfl

/-- The tick neither reads nor writes FLT and CAUSE. -/
theorem tick_with_fault (s : State) (flt : Bool) (c : BitVec 4) :
    tick { s with flt := flt, cause := c } = { tick s with flt := flt, cause := c } := by
  unfold tick
  split
  · split <;> rfl
  · rfl

/-- Settles O31: a faulted block's command only responds, and no pin shows the response. -/
theorem faultHaltsCommandsNotTheCounter : Obligations.FaultHaltsCommandsNotTheCounter := by
  refine ⟨fun w s t hf h => ?_, fun s c => tick_with_fault s true c⟩
  obtain ⟨ok, data, rfl, hread⟩ := commandStep_of_faulted h hf
  exact ⟨rfl, hread, pwmOut_respond ok data s⟩

/-! ### The only return from a fault -/

/-- `t` is faulted, with the CAUSE of `s`. -/
def StaysFaulted (s t : State) : Prop := t.flt = true ∧ t.cause = s.cause

theorem commandEdge_staysFaulted {e : Edge} {s t : State} (h : commandEdge e s = .next t)
    (hf : s.flt = true) : StaysFaulted s t := by
  rcases commandEdge_next h with ⟨_, _, rfl⟩ | ⟨_, _, rfl⟩ | ⟨_, _, _, rfl⟩ | ⟨w, _, hstep⟩ |
    ⟨_, _, rfl⟩ | ⟨_, _, rfl⟩
  · exact ⟨hf, rfl⟩
  · exact ⟨hf, rfl⟩
  · exact ⟨hf, rfl⟩
  · obtain ⟨ok, data, rfl, _⟩ := commandStep_of_faulted hstep hf
    exact ⟨hf, rfl⟩
  · exact ⟨hf, rfl⟩
  · exact ⟨hf, rfl⟩

/-- At an edge without reset the tick on either side of the command leaves FLT and CAUSE alone. -/
theorem step_staysFaulted {s t : State} (h : step s = .next t) (hr : (nextEdge s).rst = false)
    (hf : s.flt = true) : StaysFaulted s t := by
  rcases step_cases h with ⟨hrst, _⟩ | ⟨_, a, b, ha, hb, ht⟩
  · simp [hr] at hrst
  · have hbefore : StaysFaulted s a := by
      rcases ha with rfl | rfl <;> simp [StaysFaulted, hf]
    obtain ⟨haflt, hacause⟩ := hbefore
    obtain ⟨hbflt, hbcause⟩ := commandEdge_staysFaulted hb haflt
    have hafter : StaysFaulted b t := by
      rcases ht with rfl | rfl <;> simp [StaysFaulted, hbflt]
    obtain ⟨htflt, htcause⟩ := hafter
    exact ⟨htflt, htcause.trans (hbcause.trans hacause)⟩

/-- Settles O32: without reset no agent clears a fault, and reset clears FLT and CAUSE. -/
theorem onlyResetClearsAFault : Obligations.OnlyResetClearsAFault := by
  refine fun s t hf h => ⟨fun hr => step_staysFaulted h hr hf, fun hr => ?reset⟩
  case reset =>
    rcases step_cases h with ⟨_, rfl⟩ | ⟨hrst, _⟩
    · exact ⟨resetBlock_flt _, resetBlock_cause _⟩
    · simp [hr] at hrst

end Sys2Proof.Proofs
end

section
/-! PROOFS. 70_reset_and_hazards.md: the clock edge with reset (R260, R263, R264), the block after
reset (R261), the way of a new duty to its pin (R270), the first period after CONFIGURE (R274), and
that every command completes (R272). -/

namespace Sys2Proof.Proofs

open Sys2Proof.Machine Sys2Proof.Laws

/-! ### Reset -/

/-- Reset takes precedence over everything (60_exceptions.md R228). -/
theorem step_of_reset {s : State} (h : (nextEdge s).rst = true) :
    step s = .next (resetBlock (dropEdge s)) := by
  rw [step, clockEdge, if_pos h]

/-- Settles O41: the edge answers `resetBlock`, whose fields do not depend on the phase. -/
theorem resetRestoresEveryElement : Obligations.ResetRestoresEveryElement := fun _ hr =>
  ⟨_, step_of_reset hr, rfl, rfl, rfl, rfl, rfl, rfl, rfl, rfl, rfl, rfl, rfl, rfl, rfl, rfl, rfl,
    rfl, rfl, fun _ _ => step_of_reset hr⟩

/-! ### The block after reset -/

/-- An edge with neither reset nor an offered command. -/
def OffersNothing (e : Edge) : Prop := e.rst = false ∧ e.cmdValid = false

/-- Past the listed pins nobody asks anything (assumption log 4). -/
theorem nextEdge_offersNothing {s : State} (h : ∀ e ∈ s.inputs, OffersNothing e) :
    OffersNothing (nextEdge s) := by
  cases hi : s.inputs with
  | nil => rw [nextEdge, hi]; exact ⟨rfl, rfl⟩
  | cons e es => rw [nextEdge, hi]; exact h e (by simp [hi])

/-- The tick agent is idle until CONFIGURE. -/
theorem tickEdge_of_unconfigured (e : Edge) {s : State} (hc : s.cfg = false) : tickEdge e s = s := by
  rw [tickEdge, tick_of_unconfigured hc, ite_self]

theorem commandEdge_of_unoffered {e : Edge} {s : State} (hp : s.phase = .ready)
    (hv : e.cmdValid = false) : commandEdge e s = .next s := by
  simp [commandEdge, hp, hv]

theorem step_of_unoffered {s : State} (hc : s.cfg = false) (hp : s.phase = .ready)
    (h : OffersNothing (nextEdge s)) : step s = .next (dropEdge s) := by
  obtain ⟨hrst, hvalid⟩ := h
  have hcommand : commandEdge (nextEdge s) (dropEdge s) = .next (dropEdge s) :=
    commandEdge_of_unoffered hp hvalid
  have htick : tickEdge (nextEdge s) (dropEdge s) = dropEdge s := tickEdge_of_unconfigured _ hc
  rw [step, clockEdge, if_neg (by simp [hrst]), htick, hcommand, afterNext_of_next, htick, ite_self]

/-- An unconfigured ready block to which nothing is offered only consumes the pins. -/
theorem run_of_unoffered {s : State} (k : Nat) (hc : s.cfg = false) (hp : s.phase = .ready)
    (h : ∀ e ∈ s.inputs, OffersNothing e) :
    Sys2Proof.core.run k s = .next { s with inputs := s.inputs.drop k } := by
  induction k generalizing s with
  | zero => rfl
  | succ k ih =>
    rw [run_succ_of_next k (step_of_unoffered hc hp (nextEdge_offersNothing h)),
      ih (s := dropEdge s) hc hp fun e he => h e (List.mem_of_mem_tail he), dropEdge_inputs,
      List.drop_tail]
    rfl

/-- Settles O42: a reset block is unconfigured and ready, and stays so while nothing is offered. -/
theorem quietAfterReset : Obligations.QuietAfterReset := fun _ _ h =>
  ⟨rfl, rfl, rfl, rfl, fun _ => rfl, fun k => run_of_unoffered k rfl rfl h⟩

/-! ### The wrap -/

theorem ticks_succ_eq_tick (k : Nat) (s : State) : ticks (k + 1) s = tick (ticks k s) := by
  induction k generalizing s with
  | zero => rfl
  | succ k ih => exact ih (tick s)

@[simp] theorem ticks_params (k : Nat) (s : State) : (ticks k s).params = s.params := by
  induction k generalizing s with
  | zero => rfl
  | succ k ih => rw [ticks, ih, tick_params]

/-- The next wrap is TOP - CNT + 1 ticks away: it clears CNT and loads the pending duties, and no
tick up to it has changed anything else. -/
theorem ticks_to_wrap {s : State} (hc : s.cfg = true) (hle : s.cnt.toNat ≤ s.params.top.toNat) :
    ticks (s.params.top.toNat - s.cnt.toNat + 1) s =
      { s with cnt := 0, dutyAct := s.dutyPend } := by
  obtain ⟨c, hticks, hcnt⟩ :=
    ticks_before_wrap (k := s.params.top.toNat - s.cnt.toNat) hc (by omega)
  have htop : c = s.params.top := BitVec.eq_of_toNat_eq (by omega)
  rw [ticks_succ_eq_tick, hticks]
  exact tick_of_top hc htop

/-! ### READ of DUTY_ACT -/

/-- DUTY_ACT's rows of the index column (10_state.md R34). -/
theorem regAtIndex_dutyAct : ∀ ch : Fin 4,
    regAtIndex (BitVec.ofNat 8 (0x0C + ch.val)) = some (.dutyAct ch) := by
  decide

theorem answers_read_dutyAct {s : State} {ch : Nat} (hch : ch < s.params.numCh) :
    Answers (.read (BitVec.ofNat 8 (0x0C + ch))) s (dutyActAt s ch) := by
  have hlt : ch < 4 := hch.trans_le (numCh_le s.params)
  have hreg : regOfIndex s.params (BitVec.ofNat 8 (0x0C + ch)) = some (.dutyAct ⟨ch, hlt⟩) := by
    rw [regOfIndex, regAtIndex_dutyAct ⟨ch, hlt⟩, Option.filter_some,
      if_pos (by simpa [regExists] using hch)]
  exact exec_of_effect (.readDone hreg)

/-! ### A new duty -/

/-- `t` is `s` after a write of `d` to DUTY_PEND of `ch`: the counter and the duties in force are
those of `s`. -/
structure DutyWritten (ch : Nat) (d : U16) (s t : State) : Prop where
  params : t.params = s.params
  cfg : t.cfg = s.cfg
  cnt : t.cnt = s.cnt
  dutyAct : t.dutyAct = s.dutyAct
  dutyPend : dutyPendAt t ch = d

theorem dutyPendAt_of_set {s t : State} {ch : Nat} {d : U16}
    (h : t.dutyPend = s.dutyPend.set ch d) (hch : ch < s.dutyPend.length) :
    dutyPendAt t ch = d := by
  simp [dutyPendAt, h, hch]

theorem dutyWritten_of_setDuty {s t : State} {ch : Nat} {d : U16}
    (h : Effect (.setDuty (BitVec.ofNat 8 ch) d) s t) (ht : t.flt = false)
    (hlen : s.dutyPend.length = s.params.numCh) (hch : ch < s.params.numCh) :
    DutyWritten ch d s t := by
  have htoNat : (BitVec.ofNat 8 ch).toNat = ch := by
    have := numCh_le s.params
    rw [BitVec.toNat_ofNat]
    omega
  cases h with
  | dutySet =>
    exact ⟨rfl, rfl, rfl, rfl, dutyPendAt_of_set (s := s) (by simp [htoNat]) (by omega)⟩
  | ignored hf => simp [hf] at ht
  | badChannel | setDutyUnconfigured => simp at ht

theorem dutyWritten_of_cycle {s t : State} {raw : U16} (h : Effect (.cycle raw) s t)
    (ht : t.flt = false) (hlen : s.dutyPend.length = s.params.numCh) :
    DutyWritten s.params.outCh t.rspData s t := by
  cases h with
  | cycled => exact ⟨rfl, rfl, rfl, rfl, dutyPendAt_cycleOp_outCh raw hlen⟩
  | ignored hf => simp [hf] at ht
  | cycleUnconfigured => simp at ht

/-- Up to the wrap the duty in force is the old one. -/
theorem DutyWritten.dutyActAt_before_wrap {ch k : Nat} {d : U16} {s t : State}
    (h : DutyWritten ch d s t) (hc : s.cfg = true)
    (hk : s.cnt.toNat + k ≤ s.params.top.toNat) :
    dutyActAt (ticks k t) ch = dutyActAt s ch := by
  obtain ⟨c, hticks, _⟩ :=
    ticks_before_wrap (s := t) (k := k) (h.cfg.trans hc) (by rwa [h.cnt, h.params])
  rw [hticks, dutyActAt, dutyActAt, h.dutyAct]

/-- At the wrap the duty in force is the new one. -/
theorem DutyWritten.dutyActAt_at_wrap {ch : Nat} {d : U16} {s t : State}
    (h : DutyWritten ch d s t) (hc : s.cfg = true)
    (hle : s.cnt.toNat ≤ s.params.top.toNat) :
    dutyActAt (ticks (s.params.top.toNat - s.cnt.toNat + 1) t) ch = d := by
  have hwrap := ticks_to_wrap (s := t) (h.cfg.trans hc) (by rwa [h.cnt, h.params])
  rw [h.cnt, h.params] at hwrap
  rw [hwrap]
  exact h.dutyPend

/-- Settles O38: SET_DUTY and CYCLE write DUTY_PEND alone, which the next wrap loads. -/
theorem newDutyWaitsForTheWrap : Obligations.NewDutyWaitsForTheWrap := by
  intro s t i ch d hinv hc hch hexec ht hi left
  have hle := hinv.cntBound
  have hwritten : DutyWritten ch d s t := by
    rcases hi with rfl | ⟨raw, rfl, rfl, rfl⟩
    · exact dutyWritten_of_setDuty (exec_effect hexec) ht hinv.pendLength hch
    · exact dutyWritten_of_cycle (exec_effect hexec) ht hinv.pendLength
  refine ⟨by omega, by omega, fun k hk => hwritten.dutyActAt_before_wrap hc (by omega),
    hwritten.dutyActAt_at_wrap hc hle, fun k => answers_read_dutyAct ?_⟩
  rwa [ticks_params, hwritten.params]

/-! ### The first period -/

/-- `t` is in the period of the configured `s`, `k` ticks later: the duties in force are those of
`s`, whatever the commands between did. -/
structure LaterInPeriod (k : Nat) (s t : State) : Prop where
  params : t.params = s.params
  cfg : t.cfg = true
  cnt : t.cnt.toNat = s.cnt.toNat + k
  dutyAct : t.dutyAct = s.dutyAct

theorem LaterInPeriod.trans {j k : Nat} {s t u : State} (hst : LaterInPeriod j s t)
    (htu : LaterInPeriod k t u) : LaterInPeriod (j + k) s u where
  params := htu.params.trans hst.params
  cfg := htu.cfg
  cnt := by rw [htu.cnt, hst.cnt, Nat.add_assoc]
  dutyAct := htu.dutyAct.trans hst.dutyAct

/-- No command of a configured block moves the counter or the duties in force: a second CONFIGURE
faults. -/
theorem effect_laterInPeriod {i : Instr} {s t : State} (h : Effect i s t) (hc : s.cfg = true) :
    LaterInPeriod 0 s t := by
  cases h with
  | configured _ hu | setDutyUnconfigured _ hu | cycleUnconfigured _ hu => simp [hc] at hu
  | ignored | reconfigure | dutySet | badChannel | pushed | averaged | mapped | lookedUp
  | gammaIndex | cycled | readDone | readUnassigned => constructor <;> simp [hc]

theorem commandStep_laterInPeriod {w : CommandWord} {s t : State}
    (h : commandStep w s = .next t) (hc : s.cfg = true) : LaterInPeriod 0 s t := by
  rcases commandStep_effect h with ⟨_, _, rfl⟩ | ⟨_, _, he⟩
  · constructor <;> simp [hc]
  · exact effect_laterInPeriod he hc

theorem tick_laterInPeriod {s : State} (hc : s.cfg = true)
    (hlt : s.cnt.toNat < s.params.top.toNat) : LaterInPeriod 1 s (tick s) := by
  obtain ⟨c, htick, hcnt⟩ := tick_of_lt_top hc hlt
  rw [htick]
  exact ⟨rfl, hc, hcnt, rfl⟩

theorem act_laterInPeriod {a : Action} {s t : State} (h : act a s = .next t) (ha : a ≠ .reset)
    (hc : s.cfg = true) (hle : s.cnt.toNat + tickCount [a] ≤ s.params.top.toNat) :
    LaterInPeriod (tickCount [a]) s t := by
  cases a with
  | command w => exact commandStep_laterInPeriod h hc
  | tick =>
    injection h with h; subst h
    exact tick_laterInPeriod hc hle
  | reset => exact absurd rfl ha

theorem tickCount_cons (a : Action) (rest : List Action) :
    tickCount (a :: rest) = tickCount [a] + tickCount rest :=
  List.countP_append (l₁ := [a])

/-- A run without reset whose ticks do not reach the wrap stays in the period. -/
theorem runActions_laterInPeriod {actions : List Action} {s t : State}
    (hreset : .reset ∉ actions) (h : runActions actions s = .next t) (hc : s.cfg = true)
    (hle : s.cnt.toNat + tickCount actions ≤ s.params.top.toNat) :
    LaterInPeriod (tickCount actions) s t := by
  induction actions generalizing s with
  | nil =>
    injection h with h; subst h
    exact ⟨rfl, hc, rfl, rfl⟩
  | cons a rest ih =>
    obtain ⟨u, hact, hrest⟩ := runActions_cons_next h
    obtain ⟨ha, hreset⟩ := List.ne_and_not_mem_of_not_mem_cons hreset
    rw [tickCount_cons] at hle ⊢
    have hfirst := act_laterInPeriod hact ha.symm hc (by omega)
    refine hfirst.trans (ih hreset hrest hfirst.cfg ?_)
    rw [hfirst.cnt, hfirst.params]
    omega

/-- CONFIGURE starts a period with every duty in force 0 (43_pwm_driver.md R160). -/
theorem configured_starts_dark {s a : State} (h : exec .configure s = .next a) (hinv : BlockInv s)
    (hf : s.flt = false) (hc : s.cfg = false) :
    a.cfg = true ∧ a.params = s.params ∧ a.cnt = 0 ∧
      a.dutyAct = List.replicate s.params.numCh 0 := by
  obtain ⟨_, _, hact⟩ := hinv.unconfigured hc
  rw [exec_of_effect (.configured hf hc)] at h
  injection h with h; subst h
  exact ⟨rfl, rfl, rfl, hact⟩

/-- A duty of 0 keeps the pin low at every count. -/
theorem pwmOut_of_dutyAct_zero {s : State} {n : Nat} (h : s.dutyAct = List.replicate n 0)
    (ch : Nat) : pwmOut s ch = false := by
  have hzero : dutyActAt s ch = 0 := by
    rw [dutyActAt, h, List.getD_eq_getElem?_getD, List.getElem?_getD_replicate_default_eq]
  rw [← Bool.not_eq_true, pwmOut_iff, hzero]
  exact fun ⟨_, _, hlt⟩ => Nat.not_lt_zero _ hlt

/-- Settles O40: the first period keeps CONFIGURE's duties of 0 in force, and CNT counts its
ticks. -/
theorem firstPeriodIsDark : Obligations.FirstPeriodIsDark := by
  intro s a t actions hinv hf hc hconf hrun hreset hle
  obtain ⟨hcfg, hparams, hcnt, hact⟩ := configured_starts_dark hconf hinv hf hc
  have hstart : a.cnt.toNat = 0 := by rw [hcnt]; rfl
  have hlater : LaterInPeriod (tickCount actions) a t :=
    runActions_laterInPeriod hreset hrun hcfg (by rwa [hstart, hparams, Nat.zero_add])
  refine ⟨pwmOut_of_dutyAct_zero (hlater.dutyAct.trans hact), fun hcount => ?wrap⟩
  case wrap =>
    have htop : t.cnt = t.params.top := BitVec.eq_of_toNat_eq (by
      rw [hlater.cnt, hstart, hlater.params, hparams, hcount, Nat.zero_add])
    rw [tick_of_top hlater.cfg htop]
    exact ⟨rfl, rfl⟩

/-! ### No run stops -/

theorem windowInv_of_reset {s : State} {p : Params} (hparams : s.params = p)
    (hwin : s.win = List.replicate p.n 0) (hwp : s.wp = 0) (hsum : s.sum = 0) : WindowInv s where
  winLength := by rw [hwin, hparams, List.length_replicate]
  wpInRange := by rw [hwp, hparams]; exact n_pos p
  sumOfSlots := by rw [hsum, hwin, slotSum_replicate]; rfl

/-- Every command leaves the window alone or pushes into it. -/
theorem effect_windowInv {i : Instr} {s t : State} (h : Effect i s t) (hs : WindowInv s) :
    WindowInv t := by
  cases h with
  | pushed | cycled =>
    exact SameWindow.windowInv (s := pushOp _ s) ⟨rfl, rfl, rfl, rfl⟩ (hs.windowInv_pushOp _)
  | ignored | configured | reconfigure | dutySet | badChannel | setDutyUnconfigured | averaged
  | mapped | lookedUp | gammaIndex | cycleUnconfigured | readDone | readUnassigned =>
    exact SameWindow.windowInv (by simp [SameWindow]) hs

theorem commandStep_windowInv {w : CommandWord} {s t : State} (h : commandStep w s = .next t)
    (hs : WindowInv s) : WindowInv t := by
  rcases commandStep_effect h with ⟨_, _, rfl⟩ | ⟨_, _, he⟩
  · exact SameWindow.windowInv (by simp [SameWindow]) hs
  · exact effect_windowInv he hs

theorem tickEdge_windowInv (e : Edge) {s : State} (hs : WindowInv s) :
    WindowInv (tickEdge e s) := by
  rw [tickEdge]
  split
  · exact (tick_sameWindow s).windowInv hs
  · exact hs

/-- The command agent goes on from a state whose WP names a slot, to another. -/
theorem commandEdge_keeps_windowInv (e : Edge) {s : State} (hs : WindowInv s) :
    ∃ t, commandEdge e s = .next t ∧ WindowInv t := by
  unfold commandEdge
  split
  · exact ⟨_, rfl, by split <;> exact SameWindow.windowInv (s := s) ⟨rfl, rfl, rfl, rfl⟩ hs⟩
  · next w _ =>
    obtain ⟨t, ht⟩ := commandStep_goes_on w hs.wp_lt_length
    exact ⟨t, ht, commandStep_windowInv ht hs⟩
  · exact ⟨_, rfl, SameWindow.windowInv (s := s) ⟨rfl, rfl, rfl, rfl⟩ hs⟩
  · exact ⟨_, rfl, by split <;> exact SameWindow.windowInv (s := s) ⟨rfl, rfl, rfl, rfl⟩ hs⟩

theorem step_keeps_windowInv {s : State} (hs : WindowInv s) :
    ∃ t, step s = .next t ∧ WindowInv t := by
  have hdrop : WindowInv (dropEdge s) := SameWindow.windowInv (s := s) ⟨rfl, rfl, rfl, rfl⟩ hs
  rw [step, clockEdge]
  split
  · exact ⟨_, rfl, windowInv_of_reset rfl rfl rfl rfl⟩
  split
  · exact commandEdge_keeps_windowInv _ (tickEdge_windowInv _ hdrop)
  · obtain ⟨t, ht, hwindow⟩ := commandEdge_keeps_windowInv (nextEdge s) hdrop
    rw [ht, afterNext_of_next]
    exact ⟨_, rfl, tickEdge_windowInv _ hwindow⟩

/-- Where `P` keeps a step going on, and every step keeps `P`, no run stops. -/
theorem safeRun_of_step_keeps {P : State → Prop}
    (hstep : ∀ s, P s → ∃ t, step s = .next t ∧ P t) (k : Nat) {s : State} (hs : P s) :
    SafeRun k s := by
  induction k generalizing s with
  | zero => exact ⟨s, rfl⟩
  | succ k ih =>
    obtain ⟨t, ht, hP⟩ := hstep s hs
    rw [SafeRun, run_succ_of_next k ht]
    exact ih hP

/-- Settles O58: from launch WP always names a slot, which is all that a step needs to go on. -/
theorem noRunEverStops : Obligations.NoRunEverStops := fun _ _ k =>
  safeRun_of_step_keeps (fun _ => step_keeps_windowInv) k (windowInv_of_reset rfl rfl rfl rfl)

end Sys2Proof.Proofs
end

section
/-! PROOFS. 30_encoding.md: decoder and encoder are inverse to each other (R70 to R75), the words as
numbers (R70), and the words of assembly lines (R79). -/

namespace Sys2Proof.Proofs

open Sys2Proof.Machine Sys2Proof.Laws

/-! ### Decoder and encoder -/

theorem encodesInRow (i : Instr) : EncodesInRow.Statement i := by
  cases i with
  | configure => exact EncodesInRow.configure
  | setDuty channel duty => exact EncodesInRow.setDuty channel duty
  | push raw => exact EncodesInRow.push raw
  | average => exact EncodesInRow.average
  | map smoothed => exact EncodesInRow.map smoothed
  | lookup index => exact EncodesInRow.lookup index
  | cycle raw => exact EncodesInRow.cycle raw
  | read index => exact EncodesInRow.read index

theorem rowOf_mem_rows (i : Instr) : EncodesInRow.rowOf i ∈ rows := by
  cases i <;> simp [EncodesInRow.rowOf, rows]

theorem decode_encode (i : Instr) : decode (encode i) = .ok i := by
  obtain ⟨hadmits, hcommand⟩ := encodesInRow i
  exact (decode_eq_ok_iff _ _).mpr
    ⟨_, rowOf_mem_rows i, (admits_iff _ _).mp hadmits, hcommand.symm⟩

/-- A word that a row matches is made of the row's opcode, 0 in the "must be 0" fields, and the
operands in the others. -/
theorem FieldTest.eq_makeWord_of_match (f : FieldTest) {w : CommandWord}
    (h : w &&& f.mask = f.pattern) :
    w = makeWord f.op (if f.zeroA then 0 else fieldA w) (if f.zeroD then 0 else fieldD w) := by
  obtain ⟨hop, ha, hd⟩ := (f.and_mask_eq_pattern_iff w).mp h
  have hfieldOP : fieldOP w = f.op := BitVec.eq_of_toNat_eq ((fieldOP_toNat w).trans hop)
  have hfieldA : (if f.zeroA then 0 else fieldA w) = fieldA w := by
    split
    · next hz => exact BitVec.eq_of_toNat_eq ((fieldA_toNat w).trans (ha hz)).symm
    · rfl
  have hfieldD : (if f.zeroD then 0 else fieldD w) = fieldD w := by
    split
    · next hz => exact BitVec.eq_of_toNat_eq ((fieldD_toNat w).trans (hd hz)).symm
    · rfl
  rw [hfieldA, hfieldD, ← hfieldOP, makeWord_fields]

/-- A row makes, of a word it matches, the command whose word this is. -/
theorem eq_encode_of_match {r : Row} {w : CommandWord} (hr : r ∈ rows)
    (h : w &&& r.mask = r.pattern) : w = encode (r.command (fieldA w) (fieldD w)) := by
  simp only [rows, List.mem_cons, List.not_mem_nil, or_false] at hr
  rcases hr with rfl | rfl | rfl | rfl | rfl | rfl | rfl | rfl
  · exact FieldTest.eq_makeWord_of_match ⟨1, true, true⟩ h
  · exact FieldTest.eq_makeWord_of_match ⟨2, false, false⟩ h
  · exact FieldTest.eq_makeWord_of_match ⟨3, true, false⟩ h
  · exact FieldTest.eq_makeWord_of_match ⟨4, true, true⟩ h
  · exact FieldTest.eq_makeWord_of_match ⟨5, true, false⟩ h
  · exact FieldTest.eq_makeWord_of_match ⟨6, true, false⟩ h
  · exact FieldTest.eq_makeWord_of_match ⟨7, true, false⟩ h
  · exact FieldTest.eq_makeWord_of_match ⟨8, false, true⟩ h

/-- Settles O1: a command's word lies in the command's own row, and a row matches no word but those
of its commands. -/
theorem decodeAgreesWithEncode : Obligations.DecodeAgreesWithEncode := by
  intro w i
  constructor
  · intro h
    obtain ⟨r, hr, hw, rfl⟩ := (decode_eq_ok_iff w i).mp h
    exact eq_encode_of_match hr hw
  · rintro rfl
    exact decode_encode i

/-- Settles O5: each word is its command's word. -/
theorem vectorWordsDecode : Obligations.VectorWordsDecode :=
  ⟨decode_encode .configure, decode_encode (.setDuty 0 0x8000), decode_encode (.push 100),
    decode_encode .average, decode_encode (.map 170), decode_encode (.lookup 256),
    decode_encode (.cycle 170), decode_encode (.read 0x15)⟩

/-! ### The words as numbers -/

/-- A word whose field A is 0. -/
theorem makeWord_zero_data_toNat (op : U8) (d : U16) :
    (makeWord op 0 d).toNat = op.toNat * 2 ^ 24 + d.toNat := by
  simp [makeWord_toNat]

/-- A word whose field D is 0. -/
theorem makeWord_index_zero_toNat (op a : U8) :
    (makeWord op a 0).toNat = op.toNat * 2 ^ 24 + a.toNat * 2 ^ 16 := by
  simp [makeWord_toNat]

/-- Settles O4: each command's word is made of its fields. -/
theorem commandWordLayout : Obligations.CommandWordLayout :=
  ⟨makeWord_zero_data_toNat 1 0, fun channel duty => makeWord_toNat 2 channel duty,
    makeWord_zero_data_toNat 3, makeWord_zero_data_toNat 4 0, makeWord_zero_data_toNat 5,
    makeWord_zero_data_toNat 6, makeWord_zero_data_toNat 7, makeWord_index_zero_toNat 8⟩

/-! ### The words of assembly lines -/

/-- A line that stands for one command assembles to its word where its operands fit, and to nothing
elsewhere. -/
theorem assemble_eq_ite {p : Params} {a : Asm} {i : Instr} {fits : Prop} [Decidable fits]
    (hexpand : expand p a = [i]) (hfits : a.wellFormed = true ↔ fits) :
    assemble p a = if fits then some [encode i] else none := by
  simp only [assemble, hexpand, hfits, List.map_cons, List.map_nil]

theorem fitsA_iff (v : Nat) : fitsA v = true ↔ v ≤ 255 := decide_eq_true_iff

theorem fitsD_iff (v : Nat) : fitsD v = true ↔ v ≤ 65535 := decide_eq_true_iff

theorem fitsA_and_fitsD_iff (u v : Nat) :
    (fitsA u && fitsD v) = true ↔ u ≤ 255 ∧ v ≤ 65535 := by
  rw [Bool.and_eq_true, fitsA_iff, fitsD_iff]

/-- The index column of 10_state.md R34 has 22 rows. -/
theorem regIndex_le (reg : Reg) : regIndex reg ≤ 0x15 := by
  cases reg with
  | dutyPend ch | dutyAct ch =>
    have := ch.isLt
    rw [regIndex]
    omega
  | status | faultCause | fill | diagAvg | diagClamped | diagBright | diagDuty | pwmCnt | cfgTop
  | cfgN | cfgMin | cfgMax | cfgCh | blockId => decide

/-- DUTY_PEND's rows of the index column (10_state.md R34). -/
theorem regAtIndex_dutyPend : ∀ ch : Fin 4,
    regAtIndex (BitVec.ofNat 8 (0x08 + ch.val)) = some (.dutyPend ch) := by
  decide

/-- The index column names each register at the index that the register's name stands for. -/
theorem regAtIndex_regIndex (reg : Reg) :
    regAtIndex (BitVec.ofNat 8 (regIndex reg)) = some reg := by
  cases reg with
  | dutyPend ch => exact regAtIndex_dutyPend ch
  | dutyAct ch => exact regAtIndex_dutyAct ch
  | status | faultCause | fill | diagAvg | diagClamped | diagBright | diagDuty | pwmCnt | cfgTop
  | cfgN | cfgMin | cfgMax | cfgCh | blockId => rfl

/-- A register name is the number of its index, which always fits field A. -/
theorem assemble_read_name (p : Params) (reg : Reg) :
    assemble p (.read (.name reg)) = assemble p (.read (.number (regIndex reg))) := by
  have hfits : (Asm.read (.number (regIndex reg))).wellFormed = true :=
    (fitsA_iff _).mpr ((regIndex_le reg).trans (by decide))
  rw [assemble, assemble, hfits]
  rfl

/-- Settles O7: each line stands for one command, and a name for an index that names it. -/
theorem assemblyProducesTheCommandsWord : Obligations.AssemblyProducesTheCommandsWord := fun p =>
  ⟨rfl, rfl, fun channel value => assemble_eq_ite rfl (fitsA_and_fitsD_iff channel value),
    fun raw => assemble_eq_ite rfl (fitsD_iff raw),
    fun smoothed => assemble_eq_ite rfl (fitsD_iff smoothed),
    fun index => assemble_eq_ite rfl (fitsD_iff index),
    fun raw => assemble_eq_ite rfl (fitsD_iff raw),
    fun index => assemble_eq_ite rfl (fitsA_iff index),
    fun reg => ⟨assemble_read_name p reg, regAtIndex_regIndex reg⟩⟩

end Sys2Proof.Proofs
end

section
/-! PROOFS. 10_state.md: every step keeps the block invariant (R23 to R36), which holds from launch;
00_scope.md R8: what is launched. -/

namespace Sys2Proof.Proofs

open Sys2Proof.Machine Sys2Proof.Laws

/-! ### Launch -/

/-- 00_scope.md R8, clause by clause: the converse of `params_bounds`. -/
theorem legal_iff (p : RawParams) :
    p.legal = true ↔ 1 ≤ p.n ∧ p.n ≤ 255 ∧ p.minDist.toNat < p.maxDist.toNat ∧ 1 ≤ p.top.toNat ∧
      1 ≤ p.numCh ∧ p.numCh ≤ 4 ∧ p.outCh < p.numCh ∧ 1 ≤ p.cmdLatency := by
  simp [RawParams.legal, and_assoc, BitVec.lt_def, BitVec.le_def]

theorem launch_of_legal {p : RawParams} (h : p.legal = true) :
    launch p = .next (State.resetFor { toRawParams := p, isLegal := h }) := dif_pos h

theorem launch_of_illegal {p : RawParams} (h : ¬ p.legal = true) :
    launch p = .refused .illegalConfiguration := dif_neg h

/-- Settles O43: the launch tests R8's clauses, of which TOP's upper bound is its width. -/
theorem illegalConfigurationIsRefused : Obligations.IllegalConfigurationIsRefused := by
  intro p legal
  have htop : p.top.toNat ≤ 0xFFFF := Nat.le_of_lt_succ p.top.isLt
  have hlegal : legal ↔ p.legal = true := by
    rw [legal_iff]
    simp only [legal, htop, true_and]
  rw [hlegal]
  exact ⟨fun h => ⟨_, rfl, launch_of_legal h⟩, launch_of_illegal⟩

/-- The reset values meet every clause: N is at least 1, and the window and the duties are 0. -/
theorem blockInv_resetFor (p : Params) : BlockInv (State.resetFor p) where
  winLength := List.length_replicate
  wpInRange := n_pos p
  fillBound := Nat.zero_le _
  sumOfSlots := (slotSum_replicate p.n 0).symm
  coldSlots := fun _ => ⟨rfl, rfl⟩
  cntBound := Nat.zero_le _
  pendLength := List.length_replicate
  actLength := List.length_replicate
  unconfigured := fun _ => ⟨rfl, rfl, rfl⟩
  causeOfFlt := ⟨fun _ => rfl, fun _ => rfl⟩
  causeAssigned := Nat.zero_le _
  waitBound := cmdLatency_pos p

/-- Settles O55: the launch values of any configuration, the reference one among them. -/
theorem resetMeetsTheInvariant : Obligations.ResetMeetsTheInvariant :=
  ⟨blockInv_resetFor, blockInv_resetFor _⟩

/-! ### What keeps the invariant -/

/-- The invariant does not read the response, the host's index and the pins, and of the handshake it
reads only the wait. -/
theorem blockInv_of_handshake {s : State} (h : BlockInv s) {phase : Phase}
    (hwait : waitOf phase < s.params.cmdLatency) (ok : Bool) (data : U16) (index : Nat)
    (es : List Edge) :
    BlockInv { s with rspOk := ok, rspData := data, phase := phase, cmdIndex := index,
                      inputs := es } :=
  { h with waitBound := hwait }

/-- A pending response waits for no edge. -/
theorem blockInv_respond {s : State} (h : BlockInv s) (ok : Bool) (data : U16) :
    BlockInv (respond ok data s) :=
  blockInv_of_handshake h (phase := .responding) (cmdLatency_pos s.params) _ _ _ _

theorem blockInv_raiseFault {s : State} (h : BlockInv s) (c : Cause) :
    BlockInv (raiseFault c s) := by
  unfold raiseFault
  split
  · exact blockInv_respond h _ _
  · obtain ⟨hpos, hle⟩ := causeCode_mem_range c
    have hne : causeCode c ≠ 0 := fun hz => by simp [hz] at hpos
    have hfaulted : BlockInv { s with flt := true, cause := causeCode c } :=
      { h with causeOfFlt := by simpa using hne, causeAssigned := hle }
    exact blockInv_respond hfaulted _ _

/-- CONFIGURE starts the counter at 0 (43_pwm_driver.md R160). -/
theorem blockInv_configured {s : State} (h : BlockInv s) :
    BlockInv { s with cfg := true, cnt := 0 } :=
  { h with cntBound := Nat.zero_le _, unconfigured := by simp }

theorem blockInv_setDutyPend {s : State} (h : BlockInv s) (hc : s.cfg = true) (ch : Nat)
    (duty : U16) : BlockInv (setDutyPend ch duty s) :=
  { h with
    pendLength := by rw [setDutyPend_dutyPend, List.length_set]; exact h.pendLength
    unconfigured := by simp [hc] }

theorem blockInv_latchDiag {s : State} (h : BlockInv s) (avg clamped : U16) (bright : U8)
    (duty : U16) : BlockInv (latchDiag avg clamped bright duty s) :=
  { h with }

/-- A push into a cold window takes the first slot of the zero pre-fill, and WP follows FILL
(10_state.md R26, R28). -/
theorem coldSlots_pushOp {s : State} (h : BlockInv s) (raw : U16)
    (hcold : (pushOp raw s).fill.toNat < s.params.n) :
    (pushOp raw s).wp.toNat = (pushOp raw s).fill.toNat ∧
      (pushOp raw s).win.drop (pushOp raw s).fill.toNat =
        List.replicate (s.params.n - (pushOp raw s).fill.toNat) 0 := by
  have hfill : (pushOp raw s).fill.toNat = s.fill.toNat + 1 := by
    rw [pushOp_fill_toNat] at hcold ⊢
    omega
  rw [hfill] at hcold ⊢
  obtain ⟨hwp, hslots⟩ := h.coldSlots (by omega)
  constructor
  · rw [pushOp_wp_toNat, hwp, Nat.mod_eq_of_lt hcold]
  · rw [pushOp_win, hwp, List.drop_set_of_lt (Nat.lt_succ_self _), Nat.succ_eq_add_one,
      ← List.drop_drop, hslots, List.drop_replicate, Nat.sub_sub]

theorem blockInv_pushOp {s : State} (h : BlockInv s) (raw : U16) : BlockInv (pushOp raw s) := by
  have hwindow := (windowInv_of_blockInv h).windowInv_pushOp raw
  exact { h with
    winLength := hwindow.winLength
    wpInRange := hwindow.wpInRange
    fillBound := by rw [pushOp_fill_toNat]; exact Nat.min_le_right _ _
    sumOfSlots := hwindow.sumOfSlots
    coldSlots := coldSlots_pushOp h raw }

theorem blockInv_cycleOp {s : State} (h : BlockInv s) (hc : s.cfg = true) (raw : U16) :
    BlockInv (cycleOp raw s) :=
  blockInv_latchDiag (blockInv_setDutyPend (blockInv_pushOp h raw) hc _ _) _ _ _ _

theorem blockInv_tick {s : State} (h : BlockInv s) : BlockInv (tick s) := by
  rcases tick_cases s with ⟨_, ht⟩ | ⟨hc, _, ht⟩ | ⟨hc, hne, _⟩
  · rwa [ht]
  · rw [ht]
    exact { h with
      cntBound := Nat.zero_le _
      actLength := h.pendLength
      unconfigured := by simp [hc] }
  · have hlt : s.cnt.toNat < s.params.top.toNat :=
      lt_of_le_of_ne h.cntBound (mt BitVec.eq_of_toNat_eq hne)
    obtain ⟨c, ht, hcnt⟩ := tick_of_lt_top hc hlt
    rw [ht]
    exact { h with cntBound := hcnt ▸ hlt, unconfigured := by simp [hc] }

/-! ### Commands and edges keep the invariant -/

theorem effect_blockInv {i : Instr} {s t : State} (he : Effect i s t) (h : BlockInv s) :
    BlockInv t := by
  cases he with
  | ignored | averaged | mapped | lookedUp | readDone => exact blockInv_respond h _ _
  | reconfigure | badChannel | setDutyUnconfigured | gammaIndex | cycleUnconfigured
  | readUnassigned => exact blockInv_raiseFault h _
  | configured => exact blockInv_respond (blockInv_configured h) _ _
  | dutySet _ hc => exact blockInv_respond (blockInv_setDutyPend h hc _ _) _ _
  | pushed => exact blockInv_respond (blockInv_pushOp h _) _ _
  | cycled _ hc => exact blockInv_respond (blockInv_cycleOp h hc _) _ _

/-- WP names a slot, so every word's command step goes on. -/
theorem commandStep_keeps_blockInv (w : CommandWord) {s : State} (h : BlockInv s) :
    ∃ t, commandStep w s = .next t ∧ BlockInv t := by
  obtain ⟨t, ht⟩ := commandStep_goes_on w (windowInv_of_blockInv h).wp_lt_length
  rcases commandStep_effect ht with ⟨_, _, rfl⟩ | ⟨_, _, he⟩
  · exact ⟨_, ht, blockInv_raiseFault h _⟩
  · exact ⟨t, ht, effect_blockInv he h⟩

theorem blockInv_tickEdge (e : Edge) {s : State} (h : BlockInv s) : BlockInv (tickEdge e s) := by
  rw [tickEdge]
  split
  · exact blockInv_tick h
  · exact h

/-- The wait starts below CMD_LATENCY at acceptance and only falls. -/
theorem commandEdge_keeps_blockInv (e : Edge) {s : State} (h : BlockInv s) :
    ∃ t, commandEdge e s = .next t ∧ BlockInv t := by
  have hlatency := cmdLatency_pos s.params
  have hwait := h.waitBound
  unfold commandEdge
  split
  · refine ⟨_, rfl, ?_⟩
    split
    · exact blockInv_of_handshake h (phase := .executing _ _)
        (Nat.sub_lt hlatency Nat.one_pos) _ _ _ _
    · exact h
  · next w _ => exact commandStep_keeps_blockInv w h
  · next w k hp =>
    rw [hp] at hwait
    exact ⟨_, rfl, blockInv_of_handshake h (phase := .executing w k)
      (Nat.lt_of_succ_lt hwait) _ _ _ _⟩
  · refine ⟨_, rfl, ?_⟩
    split
    · exact blockInv_of_handshake h (phase := .ready) hlatency _ _ _ _
    · exact h

theorem blockInv_resetBlock (s : State) : BlockInv (resetBlock s) :=
  blockInv_of_handshake (blockInv_resetFor s.params) (phase := .ready)
    (cmdLatency_pos s.params) _ _ _ _

/-- Settles O56: reset gives the launch values, and without it the command agent and the tick, in
either order, keep every clause. -/
theorem stepKeepsTheInvariant : Obligations.StepKeepsTheInvariant := by
  intro s h
  have hdrop : BlockInv (dropEdge s) := blockInv_of_handshake h h.waitBound _ _ _ _
  rw [step, clockEdge]
  split
  · exact ⟨_, rfl, blockInv_resetBlock _⟩
  split
  · exact commandEdge_keeps_blockInv _ (blockInv_tickEdge _ hdrop)
  · obtain ⟨t, ht, hinv⟩ := commandEdge_keeps_blockInv (nextEdge s) hdrop
    rw [ht, afterNext_of_next]
    exact ⟨_, rfl, blockInv_tickEdge _ hinv⟩

end Sys2Proof.Proofs
end

section
/-! PROOFS. What the commands answer: CONFIGURE and SET_DUTY (43_pwm_driver.md R160, R162), CYCLE
(44_pipeline.md R180), the average's symmetry (40_sample_window.md R107), READ by the index map
(10_state.md R34) and the one response of every command (R37). -/

namespace Sys2Proof.Proofs

open Sys2Proof.Machine Sys2Proof.Laws

/-! ### CONFIGURE and SET_DUTY -/

theorem traps_configure_of_configured {s : State} (hf : s.flt = false) (hc : s.cfg = true) :
    Traps .configure s 5 :=
  ⟨_, exec_of_effect (.reconfigure hf hc), takesFault_raiseFault .reconfigure hf⟩

/-- Settles O8: CFG decides between the effect and the fault, and the invariant knows the duties of
an unconfigured block. -/
theorem configureConfiguresOnce : Obligations.ConfigureConfiguresOnce := fun _ hf =>
  ⟨fun hc => exec_of_effect (.configured hf hc), traps_configure_of_configured hf,
    fun hc hinv => (hinv.unconfigured hc).2⟩

/-- Settles O9: CFG, then the channel, decide between the effect and the two faults. -/
theorem setDutyWritesPendingDuty : Obligations.SetDutyWritesPendingDuty := fun _ channel duty hf =>
  ⟨fun hc hch => exec_of_effect (.dutySet hf hc hch),
    traps_setDuty_of_unconfigured channel duty hf,
    fun hc hch => ⟨_, exec_of_effect (.badChannel hf hc hch), takesFault_raiseFault .badChannel hf⟩⟩

/-! ### CYCLE -/

/-- CYCLE's average is that of the window with the new sample in (44_pipeline.md R181). -/
theorem WindowInv.cycleAvg_toNat {s : State} (h : WindowInv s) (raw : U16) :
    (cycleAvg raw s).toNat = (sumAfterPush raw s).toNat / s.params.n :=
  (h.windowInv_pushOp raw).avgOp_toNat

/-- SUM loses the evicted sample and gains the new one (40_sample_window.md R101). -/
theorem WindowInv.sumAfterPush_toNat_eq_sub_add {s : State} (h : WindowInv s) (raw : U16) :
    (sumAfterPush raw s).toNat = s.sum.toNat - (evicted s).toNat + raw.toNat := by
  rw [h.sumAfterPush_toNat, h.sum_eq, Nat.add_sub_cancel_left]

theorem traps_cycle_of_unconfigured {s : State} (raw : U16) (hf : s.flt = false)
    (hc : s.cfg = false) : Traps (.cycle raw) s 2 :=
  ⟨_, exec_of_effect (.cycleUnconfigured hf hc), takesFault_raiseFault .notConfigured hf⟩

/-- Settles O14: each latch is the integer form of its stage, on the value of the stage before. -/
theorem cycleRunsTheWholePipeline : Obligations.CycleRunsTheWholePipeline := by
  intro s raw hinv hf
  have hs := windowInv_of_blockInv hinv
  refine ⟨fun hc => ?_, traps_cycle_of_unconfigured raw hf⟩
  exact ⟨_, exec_of_effect (.cycled hf hc hs.wp_lt_length), hs.sumAfterPush_toNat_eq_sub_add raw,
    pushOp_wp_toNat raw s, pushOp_fill_toNat raw s, hs.cycleAvg_toNat raw, clampOp_toNat _ _,
    mapOp_toNat _ _, rfl, rfl⟩

/-! ### The average -/

/-- Settles O23: the average reads SUM, the sum of the slots, which has no order. -/
theorem averageIgnoresSlotOrder : Obligations.AverageIgnoresSlotOrder := by
  intro s t hs ht hsf htf hparams hperm
  have hsum : s.sum = t.sum := BitVec.eq_of_toNat_eq (by
    rw [hs.sumOfSlots, ht.sumOfSlots, slotSum_perm hperm])
  have havg : avgOp s = avgOp t := by rw [avgOp, avgOp, hparams, hsum]
  exact ⟨avgOp s, answers_average hsf, havg ▸ answers_average htf⟩

/-! ### READ -/

/-- READ of an index that names a register answers the register. -/
theorem answers_regValue {s : State} {index : U8} (reg : Reg)
    (h : regOfIndex s.params index = some reg) : Answers (.read index) s (regValue s reg) :=
  exec_of_effect (.readDone h)

theorem dutyPendAt_of_getElem? {s : State} {ch : Nat} {duty : U16}
    (h : s.dutyPend[ch]? = some duty) : dutyPendAt s ch = duty := by
  simp [dutyPendAt, List.getD_eq_getElem?_getD, h]

theorem answers_read_dutyPend {s : State} {ch : Nat} (hch : ch < s.params.numCh) :
    Answers (.read (BitVec.ofNat 8 (0x08 + ch))) s (dutyPendAt s ch) := by
  have hlt : ch < 4 := hch.trans_le (numCh_le s.params)
  have hreg : regOfIndex s.params (BitVec.ofNat 8 (0x08 + ch)) = some (.dutyPend ⟨ch, hlt⟩) := by
    rw [regOfIndex, regAtIndex_dutyPend ⟨ch, hlt⟩, Option.filter_some,
      if_pos (by simpa [regExists] using hch)]
  exact answers_regValue _ hreg

/-- STATUS's three flags as bits of a number (10_state.md R35). -/
theorem flagBits_toNat : ∀ c b a : Bool,
    ((0 : BitVec 13) ++ BitVec.ofBool c ++ BitVec.ofBool b ++ BitVec.ofBool a).toNat =
      a.toNat + 2 * b.toNat + 4 * c.toNat := by
  decide

theorem statusWord_toNat (s : State) :
    (statusWord s).toNat = s.cfg.toNat + 2 * s.flt.toNat +
      4 * (if s.fill.toNat = s.params.n then 1 else 0) := by
  rw [statusWord, flagBits_toNat, warm]
  split <;> simp [*]

/-- CFG_CH's two fields as a number (10_state.md R34). -/
theorem channelBits_toNat : ∀ n ≤ 4, ∀ m < 4,
    ((0 : BitVec 9) ++ BitVec.ofNat 3 n ++ (0 : BitVec 2) ++ BitVec.ofNat 2 m).toNat =
      m + 16 * n := by
  decide

theorem channelWord_toNat (p : Params) : (channelWord p).toNat = p.outCh + 16 * p.numCh :=
  channelBits_toNat _ (numCh_le p) _ ((outCh_lt p).trans_le (numCh_le p))

/-- N is at most 255, so CFG_N needs no truncation to 16 bits. -/
theorem ofNat_n_toNat (p : Params) : (BitVec.ofNat 16 p.n).toNat = p.n := by
  have := n_le p
  rw [BitVec.toNat_ofNat]
  omega

/-- Settles O15: each assigned index names its register, and READ answers the register. -/
theorem readAnswersTheIndexMap : Obligations.ReadAnswersTheIndexMap := by
  intro s
  refine ⟨⟨_, answers_regValue .status rfl, statusWord_toNat s⟩, answers_regValue .faultCause rfl,
    answers_regValue .fill rfl, answers_regValue .diagAvg rfl, answers_regValue .diagClamped rfl,
    answers_regValue .diagBright rfl, answers_regValue .diagDuty rfl, answers_regValue .pwmCnt rfl,
    fun ch v hch hv => ?pend, fun ch v hch hv => ?act, answers_regValue .cfgTop rfl,
    ⟨_, answers_regValue .cfgN rfl, ofNat_n_toNat s.params⟩, answers_regValue .cfgMin rfl,
    answers_regValue .cfgMax rfl, ⟨_, answers_regValue .cfgCh rfl, channelWord_toNat s.params⟩,
    answers_regValue .blockId rfl⟩
  case pend => exact dutyPendAt_of_getElem? hv ▸ answers_read_dutyPend hch
  case act => exact dutyActAt_of_getElem? hv ▸ answers_read_dutyAct hch

/-! ### The response -/

/-- `t` is `s` with the answer (0, CAUSE), where CAUSE is that of `t`, and otherwise only FLT and
CAUSE may have changed. -/
def Refuses (s t : State) : Prop :=
  ∃ cause : BitVec 4,
    t = respond false (cause.setWidth 16) { s with flt := true, cause := cause }

theorem refuses_ignored {s : State} (hf : s.flt = true) :
    Refuses s (respond false (causeWord s) s) := by
  have hsame : { s with flt := true, cause := s.cause } = s := by rw [← hf]
  exact ⟨s.cause, by rw [hsame]; rfl⟩

theorem refuses_raiseFault (c : Cause) (s : State) : Refuses s (raiseFault c s) := by
  cases hf : s.flt with
  | false => exact ⟨causeCode c, raiseFault_first c hf⟩
  | true => rw [raiseFault_again c hf]; exact refuses_ignored hf

/-- `t` answers ok = 1, with FLT and CAUSE of `s`. -/
def Executes (s t : State) : Prop := t.rspOk = true ∧ t.flt = s.flt ∧ t.cause = s.cause

/-- A command executes, or is refused: faulted or ignored. -/
theorem effect_executes_or_refuses {i : Instr} {s t : State} (h : Effect i s t) :
    Executes s t ∨ Refuses s t := by
  cases h with
  | ignored hf => exact .inr (refuses_ignored hf)
  | reconfigure | badChannel | setDutyUnconfigured | gammaIndex | cycleUnconfigured
  | readUnassigned => exact .inr (refuses_raiseFault _ s)
  | configured | dutySet | pushed | averaged | mapped | lookedUp | cycled | readDone =>
    exact .inl ⟨rfl, rfl, rfl⟩

theorem commandStep_executes_or_refuses {w : CommandWord} {s t : State}
    (h : commandStep w s = .next t) : Executes s t ∨ Refuses s t := by
  rcases commandStep_effect h with ⟨_, _, rfl⟩ | ⟨_, _, he⟩
  · exact .inr (refuses_raiseFault _ s)
  · exact effect_executes_or_refuses he

/-- Every command leaves a pending response, and the host's index and the pins as they are. -/
theorem effect_handshake {i : Instr} {s t : State} (h : Effect i s t) :
    t.phase = .responding ∧ t.cmdIndex = s.cmdIndex ∧ t.inputs = s.inputs := by
  cases h <;> simp

theorem commandStep_handshake {w : CommandWord} {s t : State} (h : commandStep w s = .next t) :
    t.phase = .responding ∧ t.cmdIndex = s.cmdIndex ∧ t.inputs = s.inputs := by
  rcases commandStep_effect h with ⟨_, _, rfl⟩ | ⟨_, _, he⟩
  · simp
  · exact effect_handshake he

/-- The commands without a result answer 0 when they execute. -/
theorem effect_rspData_eq_zero {i : Instr} {s t : State} (h : Effect i s t) (ht : t.rspOk = true)
    (hi : i = .configure ∨ (∃ ch d, i = .setDuty ch d) ∨ ∃ raw, i = .push raw) :
    t.rspData = 0 := by
  cases h with
  | configured | dutySet | pushed => rfl
  | ignored | reconfigure | badChannel | setDutyUnconfigured | gammaIndex | cycleUnconfigured
  | readUnassigned => simp at ht
  | averaged | mapped | lookedUp | cycled | readDone => simp at hi

theorem commandStep_rspData_eq_zero {w : CommandWord} {s t : State}
    (h : commandStep w s = .next t) (ht : t.rspOk = true)
    (hw : decode w = .ok .configure ∨ (∃ ch d, decode w = .ok (.setDuty ch d)) ∨
      ∃ raw, decode w = .ok (.push raw)) : t.rspData = 0 := by
  rcases commandStep_effect h with ⟨_, _, rfl⟩ | ⟨i, hd, he⟩
  · simp at ht
  · exact effect_rspData_eq_zero he ht (by simpa [hd] using hw)

/-- Settles O33: a word's command executes or is refused. -/
theorem everyCommandAnswersOnce : Obligations.EveryCommandAnswersOnce := by
  intro w s t h
  obtain ⟨hphase, -, -⟩ := commandStep_handshake h
  refine ⟨hphase, by simp [rspValid, hphase], by simp [cmdReady, hphase], fun hok => ?refused,
    fun hok => ?executed, commandStep_rspData_eq_zero h⟩
  case refused =>
    rcases commandStep_executes_or_refuses h with ⟨hexec, -⟩ | ⟨cause, rfl⟩
    · simp [hok] at hexec
    · exact ⟨rfl, rfl, rfl⟩
  case executed =>
    rcases commandStep_executes_or_refuses h with ⟨-, hsame⟩ | ⟨cause, rfl⟩
    · exact hsame
    · simp at hok

end Sys2Proof.Proofs
end

section
/-! PROOFS. Who writes what: the DIAG registers (10_state.md R31), the duties (R32), the window and
CNT (R26, R30, 20_memory.md R52), and what a command that only reads, or a repeated one, leaves
(20_memory.md R56). -/

namespace Sys2Proof.Proofs

open Sys2Proof.Machine Sys2Proof.Laws

/-! ### The DIAG registers -/

/-- `t` has the DIAG registers of `s`. -/
def SameDiag (s t : State) : Prop :=
  t.diagAvg = s.diagAvg ∧ t.diagClamped = s.diagClamped ∧ t.diagBright = s.diagBright ∧
    t.diagDuty = s.diagDuty

/-- A command leaves the DIAG registers, or it is a CYCLE that latches its values. -/
theorem effect_diag_cases {i : Instr} {s t : State} (h : Effect i s t) :
    SameDiag s t ∨ ∃ raw, i = .cycle raw ∧ t = respond true (cycleDuty raw s) (cycleOp raw s) := by
  cases h with
  | cycled => exact .inr ⟨_, rfl, rfl⟩
  | ignored | configured | reconfigure | dutySet | badChannel | setDutyUnconfigured | pushed
  | averaged | mapped | lookedUp | gammaIndex | cycleUnconfigured | readDone | readUnassigned =>
    exact .inl (by simp [SameDiag])

theorem commandStep_diag_cases {w : CommandWord} {s t : State} (h : commandStep w s = .next t) :
    SameDiag s t ∨ ∃ raw, decode w = .ok (.cycle raw) ∧
      t = respond true (cycleDuty raw s) (cycleOp raw s) := by
  rcases commandStep_effect h with ⟨_, _, rfl⟩ | ⟨i, hd, he⟩
  · exact .inl (by simp [SameDiag])
  · simpa [hd] using effect_diag_cases he

theorem tick_sameDiag (s : State) : SameDiag s (tick s) :=
  ⟨tick_diagAvg s, tick_diagClamped s, tick_diagBright s, tick_diagDuty s⟩

/-- Settles O46: the one effect that writes a DIAG register is CYCLE's, with ok = 1. -/
theorem diagWrittenOnlyByCycle : Obligations.DiagWrittenOnlyByCycle := by
  refine ⟨fun w s t h hne => ?_, tick_sameDiag⟩
  rcases commandStep_diag_cases h with ⟨havg, hclamped, hbright, hduty⟩ | ⟨raw, hd, rfl⟩
  · exact absurd (by rw [havg, hclamped, hbright, hduty]) hne
  · exact ⟨⟨raw, hd⟩, rfl⟩

theorem diagConsistent_of_sameDiag {s t : State} (hparams : t.params = s.params)
    (hdiag : SameDiag s t) (h : DiagConsistent s) : DiagConsistent t := by
  obtain ⟨havg, hclamped, hbright, hduty⟩ := hdiag
  rwa [DiagConsistent, havg, hclamped, hbright, hduty, hparams]

theorem diagConsistent_tick {s : State} (h : DiagConsistent s) : DiagConsistent (tick s) :=
  diagConsistent_of_sameDiag (tick_params s) (tick_sameDiag s) h

/-- CYCLE latches an average, its clamp, its map and the table's entry there (44_pipeline.md
R183). -/
theorem diagConsistent_cycled (raw : U16) (s : State) :
    DiagConsistent (respond true (cycleDuty raw s) (cycleOp raw s)) :=
  .inr ⟨rfl, rfl, rfl⟩

theorem commandStep_params {w : CommandWord} {s t : State} (h : commandStep w s = .next t) :
    t.params = s.params := by
  rcases commandStep_effect h with ⟨_, _, rfl⟩ | ⟨_, _, he⟩
  · exact raiseFault_params _ s
  · exact effect_params he

theorem commandStep_diagConsistent {w : CommandWord} {s t : State}
    (h : commandStep w s = .next t) (hs : DiagConsistent s) : DiagConsistent t := by
  rcases commandStep_diag_cases h with hsame | ⟨raw, _, rfl⟩
  · exact diagConsistent_of_sameDiag (commandStep_params h) hsame hs
  · exact diagConsistent_cycled raw s

theorem commandEdge_diagConsistent {e : Edge} {s t : State} (h : commandEdge e s = .next t)
    (hs : DiagConsistent s) : DiagConsistent t := by
  rcases commandEdge_next h with ⟨_, _, rfl⟩ | ⟨_, _, rfl⟩ | ⟨_, _, _, rfl⟩ | ⟨w, _, hstep⟩ |
    ⟨_, _, rfl⟩ | ⟨_, _, rfl⟩
  · exact hs
  · exact hs
  · exact hs
  · exact commandStep_diagConsistent hstep hs
  · exact hs
  · exact hs

/-- Settles O57: reset clears the DIAG registers, the tick keeps them, and a command keeps them or
latches consistent ones. -/
theorem stepKeepsDiagConsistent : Obligations.StepKeepsDiagConsistent := by
  refine ⟨fun p => .inl ⟨rfl, rfl, rfl, rfl⟩, fun s t hs h => ?_⟩
  rcases step_cases h with ⟨_, rfl⟩ | ⟨_, a, b, ha, hb, ht⟩
  · exact .inl ⟨rfl, rfl, rfl, rfl⟩
  · have hbefore : DiagConsistent a := by
      rcases ha with rfl | rfl
      · exact hs
      · exact diagConsistent_tick hs
    have hafter : DiagConsistent b := commandEdge_diagConsistent hb hbefore
    rcases ht with rfl | rfl
    · exact hafter
    · exact diagConsistent_tick hafter

/-! ### The duty registers -/

theorem effect_dutyAct {i : Instr} {s t : State} (h : Effect i s t) : t.dutyAct = s.dutyAct := by
  cases h <;> simp

/-- A command leaves the pending duties, or it is a SET_DUTY or a CYCLE and writes one entry. -/
theorem effect_dutyPend_cases {i : Instr} {s t : State} (h : Effect i s t) :
    t.dutyPend = s.dutyPend ∨
    (∃ channel duty, i = .setDuty channel duty ∧
      t.dutyPend = s.dutyPend.set channel.toNat duty) ∨
    (∃ raw, i = .cycle raw ∧ t.dutyPend = s.dutyPend.set s.params.outCh (cycleDuty raw s)) := by
  cases h with
  | dutySet => exact .inr (.inl ⟨_, _, rfl, rfl⟩)
  | cycled => exact .inr (.inr ⟨_, rfl, rfl⟩)
  | ignored | configured | reconfigure | badChannel | setDutyUnconfigured | pushed | averaged
  | mapped | lookedUp | gammaIndex | cycleUnconfigured | readDone | readUnassigned =>
    exact .inl (by simp)

/-- A write of one entry changes no other. -/
theorem eq_of_dutyPendAt_ne_of_set {s t : State} {ch ch' : Nat} {d : U16}
    (h : t.dutyPend = s.dutyPend.set ch' d) (hne : dutyPendAt t ch ≠ dutyPendAt s ch) :
    ch' = ch := by
  by_contra hch
  exact hne (by simp [dutyPendAt, h, hch])

theorem commandStep_writes_duties {w : CommandWord} {s t : State}
    (h : commandStep w s = .next t) :
    t.dutyAct = s.dutyAct ∧ ∀ ch, dutyPendAt t ch ≠ dutyPendAt s ch →
      (∃ channel duty, decode w = .ok (.setDuty channel duty) ∧ channel.toNat = ch) ∨
      (∃ raw, decode w = .ok (.cycle raw) ∧ ch = s.params.outCh) := by
  rcases commandStep_effect h with ⟨_, _, rfl⟩ | ⟨i, hd, he⟩
  · exact ⟨raiseFault_dutyAct _ s, fun ch hne => absurd (by simp [dutyPendAt]) hne⟩
  refine ⟨effect_dutyAct he, fun ch hne => ?_⟩
  rcases effect_dutyPend_cases he with hpend | ⟨channel, duty, rfl, hpend⟩ | ⟨raw, rfl, hpend⟩
  · exact absurd (by rw [dutyPendAt, dutyPendAt, hpend]) hne
  · exact .inl ⟨channel, duty, hd, eq_of_dutyPendAt_ne_of_set hpend hne⟩
  · exact .inr ⟨raw, hd, (eq_of_dutyPendAt_ne_of_set hpend hne).symm⟩

/-- The duties in force change only at a wrap, which loads the pending ones. -/
theorem tick_writes_dutyAct {s : State} (hne : (tick s).dutyAct ≠ s.dutyAct) :
    s.cfg = true ∧ s.cnt = s.params.top ∧ (tick s).dutyAct = s.dutyPend := by
  rcases tick_cases s with ⟨_, ht⟩ | ⟨hc, htop, ht⟩ | ⟨_, _, ht⟩
  · exact absurd (by rw [ht]) hne
  · exact ⟨hc, htop, by rw [ht]⟩
  · exact absurd (by rw [ht]) hne

/-- Settles O47: the two writers of DUTY_PEND, the wrap as the one writer of DUTY_ACT, and pins that
read DUTY_ACT. -/
theorem dutyRegistersWrittenOnlyByTheirOwners :
    Obligations.DutyRegistersWrittenOnlyByTheirOwners :=
  ⟨fun _ _ _ => commandStep_writes_duties, fun s => ⟨tick_dutyPend s, tick_writes_dutyAct⟩,
    fun _ _ _ => rfl⟩

/-! ### The window and the counter -/

/-- A command leaves the window, WP, FILL and SUM, or it is a PUSH or a CYCLE and writes the slot at
WP. -/
theorem effect_slot_cases {i : Instr} {s t : State} (h : Effect i s t) :
    (t.win, t.wp, t.fill, t.sum) = (s.win, s.wp, s.fill, s.sum) ∨
    ∃ raw, (i = .push raw ∨ i = .cycle raw) ∧ t.win = s.win.set s.wp.toNat raw := by
  cases h with
  | pushed => exact .inr ⟨_, .inl rfl, rfl⟩
  | cycled => exact .inr ⟨_, .inr rfl, rfl⟩
  | ignored | configured | reconfigure | dutySet | badChannel | setDutyUnconfigured | averaged
  | mapped | lookedUp | gammaIndex | cycleUnconfigured | readDone | readUnassigned =>
    exact .inl (by simp)

/-- A command leaves CNT, or it is CONFIGURE and clears it. -/
theorem effect_cnt_cases {i : Instr} {s t : State} (h : Effect i s t) :
    t.cnt = s.cnt ∨ (i = .configure ∧ t.cnt = 0) := by
  cases h with
  | configured => exact .inr ⟨rfl, rfl⟩
  | ignored | reconfigure | dutySet | badChannel | setDutyUnconfigured | pushed | averaged | mapped
  | lookedUp | gammaIndex | cycled | cycleUnconfigured | readDone | readUnassigned =>
    exact .inl (by simp)

/-- Settles O48: the effects that write the window are those of PUSH and CYCLE, the one that writes
CNT is CONFIGURE's. -/
theorem windowAndCounterWrittenOnlyByTheirOwners :
    Obligations.WindowAndCounterWrittenOnlyByTheirOwners := by
  refine ⟨fun w s t h => ?_, fun s => ⟨tick_win s, tick_wp s, tick_fill s, tick_sum s⟩⟩
  rcases commandStep_effect h with ⟨_, _, rfl⟩ | ⟨i, hd, he⟩
  · simp
  refine ⟨fun hne => ?window, fun hne => ?counter⟩
  case window =>
    rcases effect_slot_cases he with hsame | ⟨raw, hi, hwin⟩
    · exact absurd hsame hne
    · exact ⟨raw, by simpa [hd] using hi, hwin⟩
  case counter =>
    rcases effect_cnt_cases he with hsame | ⟨rfl, hcnt⟩
    · exact absurd hsame hne
    · exact ⟨hd, hcnt⟩

/-! ### Commands that only read, and repeated commands -/

/-- No register of the index map shows the response or the handshake (10_state.md R34). -/
theorem regValue_respond (ok : Bool) (data : U16) (s : State) (reg : Reg) :
    regValue (respond ok data s) reg = regValue s reg := by
  cases reg <;> rfl

/-- AVERAGE, MAP, LOOKUP or READ, when it succeeds, only responds, and does so again. -/
theorem effect_of_read_only {i : Instr} {s t : State} (h : Effect i s t) (ht : t.rspOk = true)
    (hi : i = .average ∨ (∃ x, i = .map x) ∨ (∃ x, i = .lookup x) ∨ ∃ x, i = .read x) :
    t = respond true t.rspData s ∧ Effect i t t := by
  cases h with
  | averaged hf => exact ⟨rfl, .averaged hf⟩
  | mapped hf => exact ⟨rfl, .mapped hf⟩
  | lookedUp hf hindex => exact ⟨rfl, .lookedUp hf hindex⟩
  | @readDone _ index reg hr =>
    refine ⟨rfl, ?_⟩
    have hagain : Effect (.read index) (respond true (regValue s reg) s) _ := .readDone hr
    rwa [regValue_respond] at hagain
  | ignored | gammaIndex | readUnassigned => simp at ht
  | configured | reconfigure | dutySet | badChannel | setDutyUnconfigured | pushed | cycled
  | cycleUnconfigured => simp at hi

/-- A duty written over another leaves no trace of it. -/
theorem setDutyPend_setDutyPend (ch : Nat) (d e : U16) (s : State) :
    setDutyPend ch e (setDutyPend ch d s) = setDutyPend ch e s := by
  simp [setDutyPend]

/-- A SET_DUTY that succeeded does the same again. -/
theorem effect_setDuty_again {s t : State} {channel : U8} {duty : U16}
    (h : Effect (.setDuty channel duty) s t) (ht : t.rspOk = true) :
    Effect (.setDuty channel duty) t t := by
  cases h with
  | dutySet hf hc hch =>
    have hagain : Effect (.setDuty channel duty)
        (respond true 0 (setDutyPend channel.toNat duty s))
        (respond true 0 (setDutyPend channel.toNat duty (setDutyPend channel.toNat duty s))) :=
      .dutySet hf hc hch
    rwa [setDutyPend_setDutyPend] at hagain
  | ignored | badChannel | setDutyUnconfigured => simp at ht

/-- A CONFIGURE that succeeded leaves an unfaulted, configured block. -/
theorem effect_configure_succeeds {s t : State} (h : Effect .configure s t)
    (ht : t.rspOk = true) : t.flt = false ∧ t.cfg = true := by
  cases h with
  | configured hf => exact ⟨hf, rfl⟩
  | ignored | reconfigure => simp at ht

/-- Settles O49: each command's effect, taken from the state it leaves. -/
theorem readOnlyCommandsAndIdempotence : Obligations.ReadOnlyCommandsAndIdempotence := by
  refine ⟨fun i s t h ht hi => ?reads, fun s t channel duty h ht => ?duty, fun s t h ht => ?again⟩
  case reads =>
    obtain ⟨honly, hsame⟩ := effect_of_read_only (exec_effect h) ht hi
    exact ⟨honly, exec_of_effect hsame⟩
  case duty => exact exec_of_effect (effect_setDuty_again (exec_effect h) ht)
  case again =>
    obtain ⟨hf, hc⟩ := effect_configure_succeeds (exec_effect h) ht
    exact traps_configure_of_configured hf hc

end Sys2Proof.Proofs
end

section
/-! PROOFS. The clock edge: the handshake of the command port (10_state.md R39), the command that is
due (60_exceptions.md R225), the tick beside it (20_memory.md R59), and duties written twice in a
period (70_reset_and_hazards.md R271). -/

namespace Sys2Proof.Proofs

open Sys2Proof.Machine Sys2Proof.Laws

/-! ### The command agent at an edge -/

theorem commandEdge_of_offered {e : Edge} {s : State} (hp : s.phase = .ready)
    (hv : e.cmdValid = true) : commandEdge e s = .next (acceptCommand e.cmdData s) := by
  simp [commandEdge, hp, hv]

theorem commandEdge_of_waiting (e : Edge) {s : State} {w : CommandWord} {k : Nat}
    (hp : s.phase = .executing w (k + 1)) :
    commandEdge e s = .next { s with phase := .executing w k } := by
  simp [commandEdge, hp]

theorem commandEdge_of_due (e : Edge) {s : State} {w : CommandWord}
    (hp : s.phase = .executing w 0) : commandEdge e s = commandStep w s := by
  simp [commandEdge, hp]

theorem commandEdge_of_taken {e : Edge} {s : State} (hp : s.phase = .responding)
    (hr : e.rspReady = true) : commandEdge e s = .next { s with phase := .ready } := by
  simp [commandEdge, hp, hr]

/-! ### The edge by its tick -/

theorem tickEdge_of_tick {e : Edge} (ht : e.pwmTick = true) (s : State) : tickEdge e s = tick s :=
  if_pos ht

theorem tickEdge_of_no_tick {e : Edge} (ht : e.pwmTick = false) (s : State) : tickEdge e s = s := by
  simp [tickEdge, ht]

theorem clockEdge_of_tick_first {e : Edge} (hr : e.rst = false) (hfirst : e.tickFirst = true)
    (s : State) : clockEdge e s = commandEdge e (tickEdge e s) := by
  simp [clockEdge, hr, hfirst]

theorem clockEdge_of_tick_last {e : Edge} (hr : e.rst = false) (hfirst : e.tickFirst = false)
    (s : State) : clockEdge e s = afterNext (commandEdge e s) (tickEdge e) := by
  simp [clockEdge, hr, hfirst]

/-- Nothing is done after the outcome. -/
theorem afterNext_of_id {f : State → State} (hf : ∀ s, f s = s) (r : Result) :
    afterNext r f = r := by
  cases r with
  | next s => rw [afterNext_of_next, hf]
  | fault | refused => rfl

/-- Without reset and tick, an edge is the command agent's part. -/
theorem clockEdge_of_no_tick {e : Edge} (hr : e.rst = false) (ht : e.pwmTick = false) (s : State) :
    clockEdge e s = commandEdge e s := by
  have hnone := tickEdge_of_no_tick ht
  cases hfirst : e.tickFirst with
  | true => rw [clockEdge_of_tick_first hr hfirst, hnone]
  | false => rw [clockEdge_of_tick_last hr hfirst, afterNext_of_id hnone]

theorem step_of_no_tick {s : State} (hr : (nextEdge s).rst = false)
    (ht : (nextEdge s).pwmTick = false) : step s = commandEdge (nextEdge s) (dropEdge s) :=
  clockEdge_of_no_tick hr ht _

theorem step_of_tick_first {s : State} (hr : (nextEdge s).rst = false)
    (ht : (nextEdge s).pwmTick = true) (hfirst : (nextEdge s).tickFirst = true) :
    step s = commandEdge (nextEdge s) (tick (dropEdge s)) := by
  rw [step, clockEdge_of_tick_first hr hfirst, tickEdge_of_tick ht]

theorem step_of_tick_last {s : State} (hr : (nextEdge s).rst = false)
    (ht : (nextEdge s).pwmTick = true) (hfirst : (nextEdge s).tickFirst = false) :
    step s = afterNext (commandEdge (nextEdge s) (dropEdge s)) tick := by
  rw [step, clockEdge_of_tick_last hr hfirst, funext (tickEdge_of_tick ht)]

/-- Settles O50: the command agent runs the command that is due, beside the tick. -/
theorem stepRunsTheDecodedCommand : Obligations.StepRunsTheDecodedCommand := by
  intro s w i hp hd hr
  have hdue : ∀ t : State, t.phase = s.phase → commandEdge (nextEdge s) t = exec i t :=
    fun t ht => (commandEdge_of_due _ (ht.trans hp)).trans (commandStep_of_ok t hd)
  refine ⟨fun ht => ?_, fun ht hfirst => ?_, fun ht hfirst => ?_⟩
  · rw [step_of_no_tick hr ht, hdue (dropEdge s) rfl]
  · rw [step_of_tick_last hr ht hfirst, hdue (dropEdge s) rfl]
  · rw [step_of_tick_first hr ht hfirst, hdue (tick (dropEdge s)) (tick_phase _)]

theorem phase_eq_ready_of_cmdReady {s : State} (h : cmdReady s = true) : s.phase = .ready :=
  of_decide_eq_true h

theorem phase_eq_responding_of_rspValid {s : State} (h : rspValid s = true) :
    s.phase = .responding :=
  of_decide_eq_true h

/-- Settles O51: one case of the command agent per phase and pin. -/
theorem handshakeOfTheCommandPort : Obligations.HandshakeOfTheCommandPort := by
  intro s hr ht
  rw [step_of_no_tick hr ht]
  exact ⟨fun h hv => commandEdge_of_offered (phase_eq_ready_of_cmdReady h) hv,
    fun h hv => commandEdge_of_unoffered (phase_eq_ready_of_cmdReady h) hv,
    fun h hv => commandEdge_of_taken (phase_eq_responding_of_rspValid h) hv,
    fun h hv => commandEdge_of_untaken (phase_eq_responding_of_rspValid h) hv,
    fun _ _ hp => commandEdge_of_waiting _ hp⟩

/-! ### The tick of an edge -/

/-- The registers of `s` in a block with this handshake, host's index and pins. -/
def withHandshake (phase : Phase) (index : Nat) (es : List Edge) (s : State) : State :=
  { s with phase := phase, cmdIndex := index, inputs := es }

/-- The tick neither reads nor writes the handshake, the host's index and the pins. -/
theorem tick_withHandshake (phase : Phase) (index : Nat) (es : List Edge) (s : State) :
    tick (withHandshake phase index es s) = withHandshake phase index es (tick s) := by
  unfold tick withHandshake
  split
  · split <;> rfl
  · rfl

/-- The edge with its tick taken away. -/
def withoutTick (e : Edge) : Edge := { e with pwmTick := false }

/-- The command agent does not see the tick. -/
theorem commandEdge_withoutTick (e : Edge) (s : State) :
    commandEdge (withoutTick e) s = commandEdge e s := rfl

/-- Without its tick, an edge without reset is the command agent's part. -/
theorem step_withoutTick {s : State} {e : Edge} {es : List Edge} (hr : e.rst = false)
    (hi : s.inputs = withoutTick e :: es) : step s = commandEdge e (dropEdge s) := by
  have hnext : nextEdge s = withoutTick e := by rw [nextEdge, hi]; rfl
  rw [step_of_no_tick (by rwa [hnext]) (by rw [hnext]; rfl), hnext, commandEdge_withoutTick]

/-- Settles O35: the edge's tick and its command agent, taken apart. -/
theorem everyTickEdgeIsOneTick : Obligations.EveryTickEdgeIsOneTick := by
  intro s hr ht quiet
  refine ⟨fun hfirst => ?last, fun hfirst => ?first⟩
  case last =>
    rw [step_of_tick_last hr ht hfirst, step_withoutTick (s := { s with inputs := quiet }) hr rfl]
    rfl
  case first =>
    have hinputs : (tick { s with inputs := quiet }).inputs = quiet := tick_inputs _
    rw [step_of_tick_first hr ht hfirst, step_withoutTick hr hinputs]
    congr 1
    have hdrop := tick_withHandshake s.phase s.cmdIndex s.inputs.tail s
    have hquiet := tick_withHandshake s.phase s.cmdIndex quiet s
    exact hdrop.trans (congrArg dropEdge hquiet).symm

/-! ### Duties written twice in a period -/

/-- What a SET_DUTY that executes leaves. -/
def withDuty (ch : Nat) (d : U16) (s : State) : State := respond true 0 (setDutyPend ch d s)

theorem exec_setDuty_eq_withDuty {s : State} {channel : U8} (d : U16) (hf : s.flt = false)
    (hc : s.cfg = true) (hch : channel.toNat < s.params.numCh) :
    exec (.setDuty channel d) s = .next (withDuty channel.toNat d s) :=
  exec_of_effect (.dutySet hf hc hch)

theorem withDuty_withDuty (ch : Nat) (d e : U16) (s : State) :
    withDuty ch e (withDuty ch d s) = withDuty ch e s := by
  rw [withDuty, withDuty, withDuty, ← setDutyPend_setDutyPend ch d e s]
  rfl

theorem dutyWritten_withDuty {s : State} {ch : Nat} (d : U16) (hch : ch < s.dutyPend.length) :
    DutyWritten ch d s (withDuty ch d s) :=
  ⟨rfl, rfl, rfl, rfl, dutyPendAt_of_set (s := s) rfl hch⟩

/-- Up to the wrap no tick looks at the pending duties. -/
theorem ticks_withDuty {s : State} {k : Nat} (hc : s.cfg = true)
    (hk : s.cnt.toNat + k ≤ s.params.top.toNat) (ch : Nat) (d : U16) :
    ticks k (withDuty ch d s) = withDuty ch d (ticks k s) := by
  obtain ⟨c, hticks, hcnt⟩ := ticks_before_wrap hc hk
  obtain ⟨c', hticks', hcnt'⟩ := ticks_before_wrap (s := withDuty ch d s) (k := k) hc hk
  have hsame : c' = c := BitVec.eq_of_toNat_eq (hcnt'.trans hcnt.symm)
  rw [hticks, hticks', hsame]
  rfl

/-- Settles O39: the ticks within the period move CNT alone, so the second duty covers the first,
and the wrap loads it. -/
theorem lastDutyBeforeTheWrapWins : Obligations.LastDutyBeforeTheWrapWins := by
  intro s channel d e k hinv hf hc hch hk
  have hle := hinv.cntBound
  have hperiod : s.cnt.toNat + k ≤ s.params.top.toNat := by omega
  have hfirst := ticks_withDuty hc hperiod channel.toNat d
  obtain ⟨c, hticks, hcnt⟩ := ticks_before_wrap hc hperiod
  have hwritten : DutyWritten channel.toNat e { s with cnt := c }
      (withDuty channel.toNat e { s with cnt := c }) :=
    dutyWritten_withDuty e (hinv.pendLength ▸ hch)
  rw [hticks] at hfirst ⊢
  refine ⟨withDuty channel.toNat d s, withDuty channel.toNat e { s with cnt := c }, _,
    exec_setDuty_eq_withDuty d hf hc hch, ?second, exec_setDuty_eq_withDuty e hf hc hch, rfl,
    fun j hj => ?before, ?wrap⟩
  case second =>
    rw [hfirst, ← withDuty_withDuty channel.toNat d e]
    exact exec_setDuty_eq_withDuty e hf hc hch
  case before => exact hwritten.dutyActAt_before_wrap hc (by simp only; omega)
  case wrap =>
    have hleft : s.params.top.toNat - s.cnt.toNat + 1 - k = s.params.top.toNat - c.toNat + 1 := by
      omega
    rw [hleft]
    exact hwritten.dutyActAt_at_wrap hc (by simp only; omega)

end Sys2Proof.Proofs
end

section
/-! PROOFS. Runs of clock edges and runs of the three agents (10_state.md R20): the actions of any
edges do what the edges do, any actions are those of some edges (20_memory.md R59), and a command
commits CMD_LATENCY edges after its acceptance (70_reset_and_hazards.md R272). -/

namespace Sys2Proof.Proofs

open Sys2Proof.Machine Sys2Proof.Laws

/-! ### Actions do not look at the handshake -/

theorem raiseFault_withHandshake (c : Cause) (phase : Phase) (index : Nat) (es : List Edge)
    (s : State) : raiseFault c (withHandshake phase index es s) =
      withHandshake .responding index es (raiseFault c s) := by
  unfold raiseFault withHandshake
  split <;> rfl

/-- No register of the index map shows the handshake (10_state.md R34). -/
theorem regValue_withHandshake (phase : Phase) (index : Nat) (es : List Edge) (s : State)
    (reg : Reg) : regValue (withHandshake phase index es s) reg = regValue s reg := by
  cases reg <;> rfl

/-- A command does the same to the registers whatever the handshake is. -/
theorem effect_withHandshake {i : Instr} {s t : State} (h : Effect i s t) (phase : Phase)
    (index : Nat) (es : List Edge) :
    Effect i (withHandshake phase index es s) (withHandshake .responding index es t) := by
  cases h with
  | ignored hf hr => exact .ignored (s := withHandshake phase index es s) hf hr
  | configured hf hc => exact .configured (s := withHandshake phase index es s) hf hc
  | dutySet hf hc hch => exact .dutySet (s := withHandshake phase index es s) hf hc hch
  | pushed hf hw => exact .pushed (s := withHandshake phase index es s) hf hw
  | averaged hf => exact .averaged (s := withHandshake phase index es s) hf
  | mapped hf => exact .mapped (s := withHandshake phase index es s) hf
  | lookedUp hf hi => exact .lookedUp (s := withHandshake phase index es s) hf hi
  | cycled hf hc hw => exact .cycled (s := withHandshake phase index es s) hf hc hw
  | readDone hr =>
    have hread := Effect.readDone (s := withHandshake phase index es s) hr
    rwa [regValue_withHandshake] at hread
  | reconfigure hf hc => exact raiseFault_withHandshake .. ▸ .reconfigure hf hc
  | badChannel hf hc hch => exact raiseFault_withHandshake .. ▸ .badChannel hf hc hch
  | setDutyUnconfigured hf hc => exact raiseFault_withHandshake .. ▸ .setDutyUnconfigured hf hc
  | gammaIndex hf hi => exact raiseFault_withHandshake .. ▸ .gammaIndex hf hi
  | cycleUnconfigured hf hc => exact raiseFault_withHandshake .. ▸ .cycleUnconfigured hf hc
  | readUnassigned hr => exact raiseFault_withHandshake .. ▸ .readUnassigned hr

/-- What a word leaves in another handshake: the same registers, and a pending response. -/
theorem commandStep_withHandshake {w : CommandWord} {s t : State} (h : commandStep w s = .next t)
    (phase : Phase) (index : Nat) (es : List Edge) :
    commandStep w (withHandshake phase index es s) =
      .next (withHandshake .responding index es t) := by
  rcases commandStep_effect h with ⟨_, hd, rfl⟩ | ⟨i, hd, he⟩
  · rw [commandStep_of_error _ hd, raiseFault_withHandshake]
  · rw [commandStep_of_ok _ hd]
    exact exec_of_effect (effect_withHandshake he phase index es)

/-- The handshake that a command leaves, spelled out. -/
theorem commandStep_eq_withHandshake {w : CommandWord} {s t : State}
    (h : commandStep w s = .next t) : t = withHandshake .responding s.cmdIndex s.inputs t := by
  obtain ⟨hphase, hindex, hinputs⟩ := commandStep_handshake h
  rw [← hphase, ← hindex, ← hinputs]
  rfl

/-- The phase in which a command commits leaves no trace. -/
theorem commandStep_of_phase {w : CommandWord} {s t : State} (h : commandStep w s = .next t)
    (phase : Phase) : commandStep w { s with phase := phase } = .next t := by
  rw [commandStep_eq_withHandshake h]
  exact commandStep_withHandshake h phase s.cmdIndex s.inputs

/-- `s` with these pins to come. -/
def withInputs (es : List Edge) (s : State) : State := { s with inputs := es }

theorem withInputs_of_eq {s : State} {es : List Edge} (h : s.inputs = es) :
    withInputs es s = s := by
  rw [← h]
  rfl

theorem commandStep_withInputs {w : CommandWord} {s t : State} (h : commandStep w s = .next t)
    (es : List Edge) : commandStep w (withInputs es s) = .next (withInputs es t) := by
  rw [commandStep_eq_withHandshake h]
  exact commandStep_withHandshake h s.phase s.cmdIndex es

theorem tick_withInputs (es : List Edge) (s : State) :
    tick (withInputs es s) = withInputs es (tick s) := by
  refine (tick_withHandshake s.phase s.cmdIndex es s).trans ?_
  rw [withHandshake, withInputs, tick_phase, tick_cmdIndex]

/-- `s` and `t` have the same registers; their handshakes may differ. -/
def SameRegisters (s t : State) : Prop := registersOf s = registersOf t

theorem sameRegisters_withHandshake (phase : Phase) (index : Nat) (es : List Edge) (s : State) :
    SameRegisters (withHandshake phase index es s) s := rfl

theorem SameRegisters.eq_withHandshake {s t : State} (h : SameRegisters s t) :
    t = withHandshake t.phase t.cmdIndex t.inputs s :=
  calc t = withHandshake t.phase t.cmdIndex t.inputs (registersOf t) := rfl
    _ = withHandshake t.phase t.cmdIndex t.inputs (registersOf s) := by rw [h]
    _ = withHandshake t.phase t.cmdIndex t.inputs s := rfl

theorem SameRegisters.tick {s t : State} (h : SameRegisters s t) :
    SameRegisters (tick s) (tick t) := by
  rw [h.eq_withHandshake, tick_withHandshake]
  exact (sameRegisters_withHandshake _ _ _ _).symm

theorem SameRegisters.act {a : Action} {s s' t : State} (h : SameRegisters s s')
    (hact : act a s = .next t) : ∃ t', act a s' = .next t' ∧ SameRegisters t t' := by
  cases a with
  | command w =>
    rw [h.eq_withHandshake]
    exact ⟨_, commandStep_withHandshake hact _ _ _, rfl⟩
  | tick =>
    injection hact with hact; subst hact
    exact ⟨_, rfl, h.tick⟩
  | reset =>
    injection hact with hact; subst hact
    rw [h.eq_withHandshake]
    exact ⟨_, rfl, rfl⟩

theorem runActions_cons_of_next {a : Action} {rest : List Action} {s t : State}
    (h : act a s = .next t) : runActions (a :: rest) s = runActions rest t := by
  rw [runActions, h]

/-- The registers alone decide what actions do to the registers. -/
theorem SameRegisters.runActions {actions : List Action} {s s' t : State} (h : SameRegisters s s')
    (hrun : runActions actions s = .next t) :
    ∃ t', runActions actions s' = .next t' ∧ SameRegisters t t' := by
  induction actions generalizing s s' with
  | nil =>
    injection hrun with hrun; subst hrun
    exact ⟨s', rfl, h⟩
  | cons a rest ih =>
    obtain ⟨u, hact, hrest⟩ := runActions_cons_next hrun
    obtain ⟨u', hact', hu⟩ := h.act hact
    rw [runActions_cons_of_next hact']
    exact ih hu hrest

theorem runActions_append_of_next {xs : List Action} (ys : List Action) {s t : State}
    (h : runActions xs s = .next t) : runActions (xs ++ ys) s = runActions ys t := by
  induction xs generalizing s with
  | nil => injection h with h; rw [h, List.nil_append]
  | cons a rest ih =>
    obtain ⟨u, hact, hrest⟩ := runActions_cons_next h
    rw [List.cons_append, runActions_cons_of_next hact, ih hrest]

/-! ### The actions of edges do what the edges do -/

/-- The command step of an edge, if one is due. -/
def commandActionsAt : Phase → List Action
  | .executing word 0 => [.command word]
  | .executing _ (_ + 1) | .ready | .responding => []

/-- The tick of an edge, if it has one. -/
def tickActionsAt (e : Edge) : List Action := if e.pwmTick then [.tick] else []

theorem actionsAt_eq (e : Edge) (phase : Phase) :
    actionsAt e phase =
      if e.rst then [.reset]
      else if e.tickFirst then tickActionsAt e ++ commandActionsAt phase
      else commandActionsAt phase ++ tickActionsAt e :=
  rfl

theorem actionsAt_of_reset {e : Edge} (hr : e.rst = true) (phase : Phase) :
    actionsAt e phase = [.reset] := by
  rw [actionsAt_eq, if_pos hr]

theorem actionsAt_of_tick_first {e : Edge} (hr : e.rst = false) (hfirst : e.tickFirst = true)
    (phase : Phase) : actionsAt e phase = tickActionsAt e ++ commandActionsAt phase := by
  rw [actionsAt_eq, if_neg (by simp [hr]), if_pos hfirst]

theorem actionsAt_of_tick_last {e : Edge} (hr : e.rst = false) (hfirst : e.tickFirst = false)
    (phase : Phase) : actionsAt e phase = commandActionsAt phase ++ tickActionsAt e := by
  rw [actionsAt_eq, if_neg (by simp [hr]), if_neg (by simp [hfirst])]

theorem runActions_tickActionsAt (e : Edge) (s : State) :
    runActions (tickActionsAt e) s = .next (tickEdge e s) := by
  unfold tickActionsAt tickEdge
  split <;> rfl

/-- The run of these actions reaches the registers of `t`. -/
def RunsTo (actions : List Action) (s t : State) : Prop :=
  ∃ u, runActions actions s = .next u ∧ SameRegisters u t

theorem SameRegisters.runsTo {s t : State} (h : SameRegisters s t) : RunsTo [] s t :=
  ⟨s, rfl, h⟩

theorem RunsTo.append {xs ys : List Action} {s t u : State} (hst : RunsTo xs s t)
    (htu : RunsTo ys t u) : RunsTo (xs ++ ys) s u := by
  obtain ⟨t', hxs, ht⟩ := hst
  obtain ⟨v, hys, hv⟩ := htu
  obtain ⟨v', hys', hv'⟩ := SameRegisters.runActions (Eq.symm ht) hys
  exact ⟨v', (runActions_append_of_next ys hxs).trans hys', Eq.trans hv'.symm hv⟩

theorem runsTo_tickEdge (e : Edge) (s : State) : RunsTo (tickActionsAt e) s (tickEdge e s) :=
  ⟨_, runActions_tickActionsAt e s, rfl⟩

theorem commandEdge_runsTo {e : Edge} {s t : State} (h : commandEdge e s = .next t) :
    RunsTo (commandActionsAt s.phase) s t := by
  rcases commandEdge_next h with ⟨hp, _, rfl⟩ | ⟨hp, _, rfl⟩ | ⟨_, _, hp, rfl⟩ | ⟨w, hp, hstep⟩ |
    ⟨hp, _, rfl⟩ | ⟨hp, _, rfl⟩
  · rw [hp]; exact SameRegisters.runsTo rfl
  · rw [hp]; exact SameRegisters.runsTo rfl
  · rw [hp]; exact SameRegisters.runsTo rfl
  · rw [hp]; exact ⟨t, runActions_cons_of_next hstep, rfl⟩
  · rw [hp]; exact SameRegisters.runsTo rfl
  · rw [hp]; exact SameRegisters.runsTo rfl

theorem tickEdge_phase (e : Edge) (s : State) : (tickEdge e s).phase = s.phase := by
  unfold tickEdge
  split
  · exact tick_phase s
  · rfl

theorem clockEdge_runsTo {e : Edge} {s t : State} (h : clockEdge e s = .next t) :
    RunsTo (actionsAt e s.phase) s t := by
  rcases clockEdge_next h with ⟨hr, rfl⟩ | ⟨hr, hfirst, hc⟩ | ⟨hr, hfirst, u, hc, rfl⟩
  · rw [actionsAt_of_reset hr]
    exact ⟨_, rfl, rfl⟩
  · rw [actionsAt_of_tick_first hr hfirst, ← tickEdge_phase e s]
    exact (runsTo_tickEdge e s).append (commandEdge_runsTo hc)
  · rw [actionsAt_of_tick_last hr hfirst]
    exact (commandEdge_runsTo hc).append (runsTo_tickEdge e u)

theorem step_runsTo {s t : State} (h : step s = .next t) :
    RunsTo (actionsAt (nextEdge s) s.phase) s t :=
  (SameRegisters.runsTo rfl : RunsTo [] s (dropEdge s)).append (clockEdge_runsTo h)

theorem actionsOver_succ_of_next {s t : State} (k : Nat) (h : step s = .next t) :
    actionsOver (k + 1) s = actionsAt (nextEdge s) s.phase ++ actionsOver k t := by
  rw [actionsOver, h]

/-- Settles O53: by induction over the edges, each of which does what its actions do. -/
theorem clockEdgesRefineTransactions : Obligations.ClockEdgesRefineTransactions := by
  intro k
  induction k with
  | zero =>
    intro s t h
    injection h with h; subst h
    exact ⟨s, rfl, rfl⟩
  | succ k ih =>
    intro s t h
    obtain ⟨u, hstep, hrun⟩ := run_succ_next h
    rw [actionsOver_succ_of_next k hstep]
    exact (step_runsTo hstep).append (ih u t hrun)

/-! ### Edges that perform actions -/

/-- These edges take the registers and the handshake of `s` to those of `t`, whatever edges follow,
and do exactly these actions. -/
def Performs (es : List Edge) (actions : List Action) (s t : State) : Prop :=
  ∀ rest, Sys2Proof.core.run es.length (withInputs (es ++ rest) s) = .next (withInputs rest t) ∧
    actionsOver es.length (withInputs (es ++ rest) s) = actions

theorem actionsOver_add_of_next {j : Nat} (k : Nat) {s t : State}
    (h : Sys2Proof.core.run j s = .next t) :
    actionsOver (j + k) s = actionsOver j s ++ actionsOver k t := by
  induction j generalizing s with
  | zero => injection h with h; rw [h, Nat.zero_add]; rfl
  | succ j ih =>
    obtain ⟨u, hstep, hrun⟩ := run_succ_next h
    rw [Nat.succ_add, actionsOver_succ_of_next _ hstep, actionsOver_succ_of_next _ hstep, ih hrun,
      List.append_assoc]

theorem performs_nil (s : State) : Performs [] [] s s := fun _ => ⟨rfl, rfl⟩

theorem Performs.append {es fs : List Edge} {xs ys : List Action} {s t u : State}
    (hst : Performs es xs s t) (htu : Performs fs ys t u) : Performs (es ++ fs) (xs ++ ys) s u := by
  intro rest
  obtain ⟨hrun, hactions⟩ := hst (fs ++ rest)
  obtain ⟨hrun', hactions'⟩ := htu rest
  rw [List.length_append, List.append_assoc, run_add_of_next _ _ hrun,
    actionsOver_add_of_next _ hrun, hactions, hactions']
  exact ⟨hrun', rfl⟩

theorem performs_edge {e : Edge} {s t : State}
    (h : ∀ rest, clockEdge e (withInputs rest s) = .next (withInputs rest t)) :
    Performs [e] (actionsAt e s.phase) s t := by
  intro rest
  have hstep : step (withInputs (e :: rest) s) = .next (withInputs rest t) := h rest
  exact ⟨run_succ_of_next 0 hstep, (actionsOver_succ_of_next 0 hstep).trans (List.append_nil _)⟩

/-- An edge with neither reset nor tick. -/
def Quiet (e : Edge) : Prop := e.rst = false ∧ e.pwmTick = false

theorem quiet_idle : Quiet Edge.idle := ⟨rfl, rfl⟩

theorem actionsAt_of_quiet {e : Edge} (he : Quiet e) (phase : Phase) :
    actionsAt e phase = commandActionsAt phase := by
  obtain ⟨hr, ht⟩ := he
  have hnone : tickActionsAt e = [] := by simp [tickActionsAt, ht]
  cases hfirst : e.tickFirst with
  | true => rw [actionsAt_of_tick_first hr hfirst, hnone, List.nil_append]
  | false => rw [actionsAt_of_tick_last hr hfirst, hnone, List.append_nil]

/-- A quiet edge is the command agent's part, and its action the one that the phase says. -/
theorem performs_quiet {e : Edge} {phase : Phase} {s t : State} (he : Quiet e)
    (hp : s.phase = phase)
    (h : ∀ rest, commandEdge e (withInputs rest s) = .next (withInputs rest t)) :
    Performs [e] (commandActionsAt phase) s t := by
  rw [← actionsAt_of_quiet he, ← hp]
  obtain ⟨hr, ht⟩ := he
  exact performs_edge fun rest => (clockEdge_of_no_tick hr ht _).trans (h rest)

/-- A ready block accepts what is offered. -/
theorem performs_accept {e : Edge} {s : State} (he : Quiet e) (hp : s.phase = .ready)
    (hv : e.cmdValid = true) : Performs [e] [] s (acceptCommand e.cmdData s) :=
  performs_quiet he hp fun rest => commandEdge_of_offered (s := withInputs rest s) hp hv

/-- A command in flight counts the edges down. -/
theorem performs_wait {es : List Edge} {w : CommandWord} {k : Nat} {s : State}
    (hes : ∀ e ∈ es, Quiet e) (hp : s.phase = .executing w (k + es.length)) :
    Performs es [] s { s with phase := .executing w k } := by
  induction es generalizing s with
  | nil =>
    have hp : s.phase = .executing w k := hp
    rw [← hp]
    exact performs_nil s
  | cons e es ih =>
    obtain ⟨he, hes⟩ := List.forall_mem_cons.mp hes
    have hfirst : Performs [e] [] s { s with phase := .executing w (k + es.length) } :=
      performs_quiet he hp fun rest => commandEdge_of_waiting e (s := withInputs rest s) hp
    exact hfirst.append (ih hes rfl)

/-- The command that is due commits. -/
theorem performs_commit {e : Edge} {w : CommandWord} {s t : State} (he : Quiet e)
    (hp : s.phase = .executing w 0) (h : commandStep w s = .next t) :
    Performs [e] [.command w] s t :=
  performs_quiet he hp fun rest =>
    (commandEdge_of_due e (s := withInputs rest s) hp).trans (commandStep_withInputs h rest)

/-- The host takes the response. -/
theorem performs_take {e : Edge} {s : State} (he : Quiet e) (hp : s.phase = .responding)
    (hr : e.rspReady = true) : Performs [e] [] s { s with phase := .ready } :=
  performs_quiet he hp fun rest => commandEdge_of_taken (s := withInputs rest s) hp hr

/-! ### The latency of a command -/

/-- `s` with the word accepted and `wait` edges left before the edge at which it commits. -/
def inFlight (w : CommandWord) (wait : Nat) (s : State) : State :=
  { s with phase := .executing w wait, cmdIndex := s.cmdIndex + 1 }

/-- The edges after its acceptance are edges that the command does not wait for any more. -/
theorem performs_accept_wait {s : State} {first : Edge} {es : List Edge} (hp : s.phase = .ready)
    (hv : first.cmdValid = true) (hquiet : ∀ e ∈ first :: es, Quiet e)
    (hlt : es.length < s.params.cmdLatency) :
    Performs (first :: es) [] s
      (inFlight first.cmdData (s.params.cmdLatency - 1 - es.length) s) := by
  obtain ⟨hfirst, hes⟩ := List.forall_mem_cons.mp hquiet
  have hleft : s.params.cmdLatency - 1 = s.params.cmdLatency - 1 - es.length + es.length := by omega
  exact (performs_accept hfirst hp hv).append
    (performs_wait hes (congrArg (Phase.executing first.cmdData) hleft))

/-- A command offered to a ready block commits at the CMD_LATENCY-th edge after that. -/
theorem performs_command {s t : State} {first last : Edge} {es : List Edge}
    (hp : s.phase = .ready) (hv : first.cmdValid = true)
    (hquiet : ∀ e ∈ first :: (es ++ [last]), Quiet e)
    (hlen : es.length + 1 = s.params.cmdLatency)
    (h : commandStep first.cmdData { s with cmdIndex := s.cmdIndex + 1 } = .next t) :
    Performs (first :: (es ++ [last])) [.command first.cmdData] s t := by
  obtain ⟨hfirst, hlast⟩ := List.forall_mem_append.mp (List.cons_append ▸ hquiet)
  have hwait := performs_accept_wait hp hv hfirst (by omega)
  have hdue : s.params.cmdLatency - 1 - es.length = 0 := by omega
  rw [hdue] at hwait
  exact hwait.append
    (performs_commit (hlast last (List.mem_singleton_self last)) rfl (commandStep_of_phase h _))

/-- Settles O52: the edges between acceptance and commit count the wait down, and the edge after
them commits. -/
theorem commandCompletesAfterItsLatency : Obligations.CommandCompletesAfterItsLatency := by
  intro s first es rest hinv hp hinputs hv hlen hquiet
  have hwp : s.wp.toNat < s.win.length := (windowInv_of_blockInv hinv).wp_lt_length
  obtain ⟨t, ht⟩ := commandStep_goes_on first.cmdData
    (s := { s with cmdIndex := s.cmdIndex + 1, inputs := rest }) hwp
  obtain ⟨hphase, -, htinputs⟩ := commandStep_handshake ht
  refine ⟨t, ?commits, by simp [rspValid, hphase], ht, fun k hk => ?waits⟩
  case commits =>
    obtain rfl | ⟨es, last, rfl⟩ := List.eq_nil_or_concat' es
    · exact absurd hlen (cmdLatency_pos s.params).ne
    have hcommit := performs_command hp hv hquiet (by rw [← hlen, List.length_append]; rfl)
      (commandStep_withInputs ht s.inputs)
    obtain ⟨hrun, -⟩ := hcommit rest
    have hend : withInputs rest (withInputs s.inputs t) = t := withInputs_of_eq (s := t) htinputs
    rwa [List.length_cons, hlen, withInputs_of_eq hinputs, hend] at hrun
  case waits =>
    have hcount : (es.take k).length = k := List.length_take_of_le (by omega)
    have hquiet : ∀ e ∈ first :: es.take k, Quiet e :=
      fun e he => hquiet e (List.cons_subset_cons first (List.take_subset k es) he)
    have hsplit : s.inputs = first :: es.take k ++ (es.drop k ++ rest) := by
      rw [hinputs, List.cons_append, List.cons_append, ← List.append_assoc, List.take_append_drop]
    obtain ⟨hrun, -⟩ := performs_accept_wait hp hv hquiet (by rwa [hcount]) (es.drop k ++ rest)
    rw [List.length_cons, hcount, withInputs_of_eq hsplit] at hrun
    exact ⟨_, hrun, rfl, rfl, rfl⟩

/-! ### Any actions are those of some edges -/

/-- The host offers this word. -/
def offerEdge (w : CommandWord) : Edge := { Edge.idle with cmdValid := true, cmdData := w }

/-- The host takes the response. -/
def takeEdge : Edge := { Edge.idle with rspReady := true }

/-- The edge only ticks. -/
def tickOnlyEdge : Edge := { Edge.idle with pwmTick := true }

/-- The edge only resets. -/
def resetOnlyEdge : Edge := { Edge.idle with rst := true }

/-- One command from its offer to its response's end, in a block of this latency. -/
def commandEdges (latency : Nat) (w : CommandWord) : List Edge :=
  offerEdge w :: (List.replicate (latency - 1) Edge.idle ++ [Edge.idle]) ++ [takeEdge]

/-- A ready block performs a command at its `commandEdges` and is ready again. -/
theorem performs_commandEdges {w : CommandWord} {s t : State} (hp : s.phase = .ready)
    (h : commandStep w s = .next t) :
    ∃ u, Performs (commandEdges s.params.cmdLatency w) [.command w] s u ∧ u.phase = .ready ∧
      SameRegisters u t := by
  have hlatency := cmdLatency_pos s.params
  have hidle : ∀ e ∈ List.replicate (s.params.cmdLatency - 1) Edge.idle ++ [Edge.idle],
      Quiet e := by
    simp [quiet_idle, or_imp, forall_and]
  have hcommit := performs_command (first := offerEdge w) hp rfl
    (List.forall_mem_cons.mpr ⟨⟨rfl, rfl⟩, hidle⟩) (by simp; omega)
    (commandStep_withHandshake h s.phase (s.cmdIndex + 1) s.inputs)
  exact ⟨_, hcommit.append (performs_take (e := takeEdge) ⟨rfl, rfl⟩ rfl rfl), rfl, rfl⟩

theorem performs_tick {s : State} (hp : s.phase = .ready) :
    Performs [tickOnlyEdge] [.tick] s (tick s) := by
  have hedge : ∀ rest, clockEdge tickOnlyEdge (withInputs rest s) =
      .next (withInputs rest (tick s)) := fun rest => by
    rw [clockEdge_of_tick_last rfl rfl, commandEdge_of_unoffered (s := withInputs rest s) hp rfl,
      afterNext_of_next, tickEdge_of_tick rfl, tick_withInputs]
  have h := performs_edge hedge
  rwa [hp] at h

theorem performs_reset (s : State) : Performs [resetOnlyEdge] [.reset] s (resetBlock s) :=
  performs_edge fun _ => rfl

/-- A ready block performs any action at some edges and is ready again. -/
theorem act_performed {a : Action} {s t : State} (hp : s.phase = .ready) (h : act a s = .next t) :
    ∃ es u, Performs es [a] s u ∧ u.phase = .ready ∧ SameRegisters u t := by
  cases a with
  | command w =>
    obtain ⟨u, hu⟩ := performs_commandEdges hp h
    exact ⟨_, u, hu⟩
  | tick =>
    injection h with h; subst h
    exact ⟨_, _, performs_tick hp, (tick_phase s).trans hp, rfl⟩
  | reset =>
    injection h with h; subst h
    exact ⟨_, _, performs_reset s, rfl, rfl⟩

/-- A ready block performs any actions that run, one after another. -/
theorem runActions_performed {actions : List Action} {s t : State} (hp : s.phase = .ready)
    (h : runActions actions s = .next t) :
    ∃ es u, Performs es actions s u ∧ u.phase = .ready ∧ SameRegisters u t := by
  induction actions generalizing s t with
  | nil =>
    injection h with h; subst h
    exact ⟨[], s, performs_nil s, hp, rfl⟩
  | cons a rest ih =>
    obtain ⟨v, hact, hrest⟩ := runActions_cons_next h
    obtain ⟨es, u, hperforms, hready, hu⟩ := act_performed hp hact
    obtain ⟨t', hrest', ht⟩ := SameRegisters.runActions (Eq.symm hu) hrest
    obtain ⟨fs, x, hperforms', hready', hx⟩ := ih hready hrest'
    exact ⟨es ++ fs, x, hperforms.append hperforms', hready', Eq.trans hx ht.symm⟩

/-- Settles O54: each action has its edges, and they follow one another. -/
theorem everyInterleavingHasItsEdges : Obligations.EveryInterleavingHasItsEdges := by
  intro actions s t hp h
  obtain ⟨es, u, hperforms, hready, hu⟩ := runActions_performed hp h
  obtain ⟨hrun, hactions⟩ := hperforms []
  rw [List.append_nil] at hrun hactions
  exact ⟨es, _, hrun, hactions, hready, hu⟩

end Sys2Proof.Proofs
end
